-- ==== Sys2Proof/Word.lean ====
section
/-! DEFINITION. The word types of the PD-4608, channel and leg names, and banks of a fixed number of like things. -/

namespace Sys2Proof

/-- A word is 32 bits (00_scope.md, Conventions). -/
abbrev Word := BitVec 32

/-- Half a word, the width of the fields of sheets, reports and order bodies. -/
abbrev Half := BitVec 16

abbrev Byte := BitVec 8

/-- One of the eight channels 0..7. -/
abbrev Chan := Fin 8

/-- One of the four phase converters, external trip inputs or field tables. -/
abbrev Quad := Fin 4

/-- The three legs (phases) of a channel. -/
inductive Leg where
  | a | b | c
  deriving DecidableEq, Repr

/-- One thing per leg of a channel. -/
structure Bank3 (α : Type) where
  a : α
  b : α
  c : α
  deriving DecidableEq, Repr

def Bank3.get {α : Type} (k : Bank3 α) : Leg → α
  | .a => k.a
  | .b => k.b
  | .c => k.c

def Bank3.set {α : Type} (k : Bank3 α) : Leg → α → Bank3 α
  | .a, x => { k with a := x }
  | .b, x => { k with b := x }
  | .c, x => { k with c := x }

def Bank3.map {α β : Type} (f : α → β) (k : Bank3 α) : Bank3 β := ⟨f k.a, f k.b, f k.c⟩

def Bank3.const {α : Type} (x : α) : Bank3 α := ⟨x, x, x⟩

/-- Four like things, by number 0..3. -/
structure Bank4 (α : Type) where
  n0 : α
  n1 : α
  n2 : α
  n3 : α
  deriving DecidableEq, Repr

def Bank4.get {α : Type} (k : Bank4 α) (i : Quad) : α :=
  match i.val with
  | 0 => k.n0
  | 1 => k.n1
  | 2 => k.n2
  | _ => k.n3

def Bank4.set {α : Type} (k : Bank4 α) (i : Quad) (x : α) : Bank4 α :=
  match i.val with
  | 0 => { k with n0 := x }
  | 1 => { k with n1 := x }
  | 2 => { k with n2 := x }
  | _ => { k with n3 := x }

def Bank4.map {α β : Type} (f : α → β) (k : Bank4 α) : Bank4 β := ⟨f k.n0, f k.n1, f k.n2, f k.n3⟩

def Bank4.const {α : Type} (x : α) : Bank4 α := ⟨x, x, x, x⟩

/-- Eight like things, one per channel. -/
structure Bank8 (α : Type) where
  c0 : α
  c1 : α
  c2 : α
  c3 : α
  c4 : α
  c5 : α
  c6 : α
  c7 : α
  deriving DecidableEq, Repr

def Bank8.get {α : Type} (k : Bank8 α) (i : Chan) : α :=
  match i.val with
  | 0 => k.c0
  | 1 => k.c1
  | 2 => k.c2
  | 3 => k.c3
  | 4 => k.c4
  | 5 => k.c5
  | 6 => k.c6
  | _ => k.c7

def Bank8.set {α : Type} (k : Bank8 α) (i : Chan) (x : α) : Bank8 α :=
  match i.val with
  | 0 => { k with c0 := x }
  | 1 => { k with c1 := x }
  | 2 => { k with c2 := x }
  | 3 => { k with c3 := x }
  | 4 => { k with c4 := x }
  | 5 => { k with c5 := x }
  | 6 => { k with c6 := x }
  | _ => { k with c7 := x }

def Bank8.ofFn {α : Type} (f : Chan → α) : Bank8 α := ⟨f 0, f 1, f 2, f 3, f 4, f 5, f 6, f 7⟩

def Bank8.map {α β : Type} (f : α → β) (k : Bank8 α) : Bank8 β :=
  ⟨f k.c0, f k.c1, f k.c2, f k.c3, f k.c4, f k.c5, f k.c6, f k.c7⟩

/-- The channels in ascending order. -/
def Chan.all : List Chan := [0, 1, 2, 3, 4, 5, 6, 7]

/-- The four numbers in ascending order. -/
def Quad.all : List Quad := [0, 1, 2, 3]

end Sys2Proof
end

