-- ==== Sys2Proof/Syntax.lean ====
section
/-! DEFINITION. The commands of the PD-4608: one constructor per row of spec/opcode_table.json. -/

namespace Sys2Proof

/-- The strap levels latched at the release of the hardware reset (R186). -/
structure Straps where
  baseSel : BitVec 2
  parityEn : Bool
  parkEn : Bool
  wait : BitVec 2
  deriving DecidableEq, Repr

/-- The outcome of a memory-port sequence (R184). -/
inductive PortOutcome where
  | ok | parity | timeout | busError | backoffLimit
  deriving DecidableEq, Repr

/-- An order at its take (R157, R158): the header fields as read, whether the body read succeeded,
and the body words as read. -/
structure Order where
  channel : Byte
  tag : Half
  length : Byte
  bodyOk : Bool
  body : List Word
  deriving DecidableEq, Repr

/-- The commands: register writes, pin and clock events, timebase and engine events, port events,
sequence ends and order takes. The names are those of the table in camel case. -/
inductive Instr where
  | hardwareReset
  | hardwareResetRelease (straps : Straps)
  | lockIndicated
  | lockTimeout
  | tickCountOverrun
  /-- A comparator window ends; `ticks` is the tick count found over its 2000 reference periods. -/
  | comparatorWindowEnd (ticks : Nat)
  | go
  | quiesce
  | fastStop
  | softReset
  | softResetRelease
  | urgentUnknownCode (code : Word)
  | regionBaseWrite (data : Word)
  | noticeWrite (data : Word)
  | noticeEnableWrite (data : Word)
  | registerWriteIgnored (offset data : Word)
  | permitInactive
  | permitActive
  | servoBoundary
  | fetchPoint
  | carrierZero (c : Chan)
  | carrierPeak (c : Chan)
  /-- `rising`: the count rises to the compare value; otherwise it falls to one below it (R12). -/
  | compareEdge (c : Chan) (leg : Leg) (rising : Bool)
  /-- The switch that may turn on is the upper one of the leg when `upper`, else the lower one. -/
  | deadtimeElapsed (c : Chan) (leg : Leg) (upper : Bool)
  | blankingEnd (c : Chan)
  | chargePulseEnd (c : Chan)
  /-- Converter k's conversion completes with the codes taken at its sample instant (R24). -/
  | conversionComplete (k : Quad) (rawA rawB : BitVec 12)
  | jobComplete
  | dcSample (raw : BitVec 12)
  | overcurrent (c : Chan) (phase : Leg)
  | gateFault (c : Chan)
  | xtFilteredEdge (i : Quad)
  | busGrant
  | grantWithdrawn
  | sequenceSelect
  /-- The slave's ready and bus-error lines at a data clock, and for a read word its data and the
  parity bit of each byte lane, lane 0 lowest (R181, R183). -/
  | wordAnswer (ready busErr : Bool) (data : Word) (par : BitVec 4)
  | readyTimeout
  | directoryReadEnd (out : PortOutcome) (words : List Word)
  | sheetFetchEnd (out : PortOutcome) (words : List Word)
  /-- `final`: the report was the final report of a quiesce (R130). -/
  | reportWriteEnd (out : PortOutcome) (final : Bool)
  | tripDumpEnd (out : PortOutcome)
  | nextPointerReadEnd (out : PortOutcome) (words : List Word)
  | headerReadEnd (out : PortOutcome) (words : List Word)
  | claimWriteEnd (out : PortOutcome)
  | bodyReadEnd (out : PortOutcome) (words : List Word)
  /-- `notify`: the sequence wrote DONE to a block whose NOTIFY flag is set (R162). -/
  | answerWriteEnd (out : PortOutcome) (notify : Bool)
  | doneWriteEnd (out : PortOutcome) (notify : Bool)
  /-- The sequence carried an entry of capture context 1 when `ctx`, else of context 0. -/
  | captureWriteEnd (out : PortOutcome) (ctx : Bool)
  | setGains (o : Order)
  | setLimits (o : Order)
  | setChannelMode (o : Order)
  | loadFieldTable (o : Order)
  | setPair (o : Order)
  | clearPair (o : Order)
  | setCarrier (o : Order)
  | setDcLink (o : Order)
  | setTripInputs (o : Order)
  | start (o : Order)
  | run (o : Order)
  | stop (o : Order)
  | disable (o : Order)
  | release (o : Order)
  | capture (o : Order)
  | cancel (o : Order)
  | orderUnknownKind (o : Order)
  | referenceZero
  | comparatorInputChange (c : Chan) (phase : Leg) (active : Bool)
  | gateFaultInputChange (c : Chan) (low : Bool)
  | xtInputChange (i : Quad) (high : Bool)
  | requestAfterRelease
  deriving DecidableEq, Repr

end Sys2Proof
end

