-- ==== Sys2Proof/Decode.lean ====
section
/-! DEFINITION. Words that spell a command: none, since the table gives no row any bits. -/

namespace Sys2Proof

/-- The command that a word spells by the bits of spec/opcode_table.json. No row of this table has bits:
the commands are events and register writes, not words of a program, so no word spells one. -/
def decodeTableWord (_nbits _w : Nat) : Option Instr := none

end Sys2Proof
end

