-- ==== Sys2Proof/Config.lean ====
section
/-! DEFINITION. What one part fixes, and the free values: what the manual leaves open or the outside gives. -/

namespace Sys2Proof.Config

/-- Free choice number n: which of several events of one tick is taken next. The manual lets either
be taken first (00_scope.md, "Either-order statements"), so nothing constrains it (log 7). -/
opaque tieBreak (n : Nat) : Nat

/-- Free choice number n: whether CHC's part of a servo boundary is taken before EXC's part
(R87, R142, R148: either order). Nothing constrains it (log 9). -/
opaque chcFirst (n : Nat) : Bool

/-- The raw codes of phases a and b at a channel's sample instant, for a conversion whose completion the
step raises itself: analogue inputs, so nothing constrains them (R24, log 10). -/
opaque phaseCodes (c : Chan) (n : Nat) : BitVec 12 × BitVec 12

/-- The raw code of the DC-link converter, for a sample the step raises itself: an analogue input,
so nothing constrains it (R26, log 10). -/
opaque dcCode (n : Nat) : BitVec 12

/-- Free choice number n: whether busy is free of every other master at the port clock edge at which MPT, in
REQUESTING, has grant. Busy of another master is an input, so nothing constrains it (R177, log 23). -/
opaque busFree (n : Nat) : Bool

end Sys2Proof.Config
end

