-- ==== Sys2Proof/Machine/Types.lean ====
section
/-! DEFINITION. The records of the nine blocks' state (INVENTORY.md, State). -/

namespace Sys2Proof.Machine

/-! ### Names of states, causes, settings and results -/

/-- The seven channel states (R80). -/
inductive ChanState where
  | disabled | calibrating | charging | armed | running | rampdown | tripped
  deriving DecidableEq, Repr

/-- The ramp causes (R80). -/
inductive RampCause where
  | none | stop | demandLoss | quiesce | fastStop
  deriving DecidableEq, Repr

/-- The trip causes, in the order of their codes 1..11 (R103). -/
inductive TripCause where
  | overcurrent | softOc | gateFault | permitLost | overvoltage | undervoltage | external | clock
  | angleJump | partner | stopEscalated
  deriving DecidableEq, Repr

inductive TripAction where
  | pulseBlock | lowShort
  deriving DecidableEq, Repr

/-- Where a channel's switches take their wanted states from (R13). -/
inductive GateSource where
  | off | charge | modulator | short
  deriving DecidableEq, Repr

/-- What a leg wants on: neither switch, the upper one or the lower one (R12). -/
inductive Want where
  | none | upper | lower
  deriving DecidableEq, Repr

/-- The clock states (R187). -/
inductive ClockState where
  | locking | checking | valid | failed
  deriving DecidableEq, Repr

/-- The exchange states (R125). -/
inductive XState where
  | stopped | starting | running | quiescing | quiesced
  deriving DecidableEq, Repr

/-- The rejection reasons (R189). -/
inductive Reason where
  | none | goState | directoryRead | version | quiesceState | baseState | unknownCode
  deriving DecidableEq, Repr

inductive Guard where
  | lenient | strict
  deriving DecidableEq, Repr

inductive DSource where
  | zero | sheet | table
  deriving DecidableEq, Repr

inductive InterpMode where
  | ramp | step
  deriving DecidableEq, Repr

inductive XtProc where
  | disabled | rising | falling | lowLevel
  deriving DecidableEq, Repr

inductive XtAction where
  | trip | fastStop
  deriving DecidableEq, Repr

/-- The order results (R175); `lossy n` is a capture that ended with drop count n. -/
inductive Result where
  | ok | adjusted | wrongState | badField | noRoom | busy | wrongRole | noPermit | undervoltage
  | quiesced | offsetRange | aborted | tripped | causePresent | noTarget | unknownKind | badLength
  | bodyError | lossy (drops : Nat)
  deriving DecidableEq, Repr

/-- The order kinds, in the order of their codes 1..16 (R159). -/
inductive OrderKind where
  | setGains | setLimits | setChannelMode | loadFieldTable | setPair | clearPair | setCarrier
  | setDcLink | setTripInputs | start | run | stop | disable | release | capture | cancel
  deriving DecidableEq, Repr

/-- The notices, in the order of their bits 0..7 (R189). -/
inductive Notice where
  | report | order | trip | demand | quiesced | port | clock | rejected
  deriving DecidableEq, Repr

/-! ### MOD -/

/-- A compare set: one value per leg (section 1.4). -/
abbrev Compare := Bank3 Nat

/-- One leg: what it wants, its two gate latches and its two off-time counters (R14). -/
structure LegGate where
  want : Want
  latchU : Bool
  latchL : Bool
  offU : Nat
  offL : Nat
  deriving DecidableEq, Repr

/-- MOD's state of one channel. `zeroDue` and `peakDue` mark a zero and a peak of the current tick that
are still to be taken, `zeroTaken` a zero already taken at this tick. -/
structure ModCh where
  offset : Nat
  periodCount : Word
  index : Nat
  indexBefore : Nat
  newCycle : Bool
  zeroDue : Bool
  zeroTaken : Bool
  peakDue : Bool
  shadow : Option Compare
  active : Compare
  legs : Bank3 LegGate
  pulses : Nat
  pulse : Option Nat
  deriving DecidableEq, Repr

/-- MOD's state of the part. -/
structure Mod where
  running : Bool
  tauRef : Nat
  j : Nat
  s : Word
  n : Nat
  l : Nat
  pendingNL : Option (Nat × Nat)
  p : Nat
  refDue : Bool
  fetchDue : Bool
  deriving DecidableEq, Repr

/-! ### SMU -/

/-- A conversion in progress. `void`: its channel became DISABLED (R23). `late`: its deadline zero or a
restart came before its delivery (R67). -/
structure Conversion where
  chan : Chan
  skew : Nat
  left : Nat
  periodCount : Word
  late : Bool
  void : Bool
  deriving DecidableEq, Repr

/-- A waiting trigger and the ticks it has waited (R21, R22). -/
structure Trigger where
  chan : Chan
  waited : Nat
  periodCount : Word
  late : Bool
  deriving DecidableEq, Repr

structure Converter where
  busy : Option Conversion
  waiting : Option Trigger
  deriving DecidableEq, Repr

/-- SMU's state of one channel: offsets and calibration accumulators (R25, R31). -/
structure SmuCh where
  offA : Nat
  offB : Nat
  sumA : Nat
  sumB : Nat
  n : Nat
  deriving DecidableEq, Repr

/-- SMU's state of the DC link (R26 to R30). -/
structure Link where
  pos : Nat
  due : Bool
  udc : Nat
  r : Nat
  cycSum : Nat
  cycCount : Nat
  deriving DecidableEq, Repr

/-! ### CHC's parameter records -/

/-- The gains group (R97). -/
structure Gains where
  kpD : Nat
  kiD : Nat
  kpQ : Nat
  kiQ : Nat
  ld : Nat
  lq : Nat
  psi : Nat
  adv : Nat
  decoupling : Bool
  deriving DecidableEq, Repr

/-- The limits group (R97). -/
structure Limits where
  imax : Nat
  idmax : Nat
  itrip : Nat
  rampStep : Nat
  fastStep : Nat
  mlim : Nat
  jumpLimit : Nat
  guard : Guard
  deriving DecidableEq, Repr

/-- The mode group (R97). -/
structure Mode where
  dSource : DSource
  table : Quad
  interp : InterpMode
  tripAction : TripAction
  angleOffset : Half
  gI : Nat
  window : Nat
  pulses : Nat
  width : Nat
  deadtime : Nat
  cmin : Nat
  blanking : Nat
  ocFilter : Nat
  gfFilter : Nat
  deriving DecidableEq, Repr

/-- A field table: breakpoints (speed, d current); empty, or 2 to 16 of them (R48). -/
abbrev FieldTable := List (Nat × Int)

/-- A staged record with the slots of the orders that wait on its swap (R98). -/
structure Staged (α : Type) where
  value : α
  slots : List Nat
  deriving DecidableEq, Repr

structure Table where
  active : FieldTable
  staged : Option (Staged FieldTable)
  deriving DecidableEq, Repr

/-- A lifecycle order in flight: START, RUN or STOP (R81). -/
inductive LifeKind where
  | start | run | stop
  deriving DecidableEq, Repr

structure Life where
  kind : LifeKind
  tag : Half
  slot : Option Nat
  deriving DecidableEq, Repr

/-- CHC's state of one channel. -/
structure ChcCh where
  state : ChanState
  rampCause : RampCause
  life : Option Life
  gains : Gains
  limits : Limits
  mode : Mode
  stGains : Option (Staged Gains)
  stLimits : Option (Staged Limits)
  deriving DecidableEq, Repr

/-- An entry of the pair table (R95). -/
structure Pair where
  leader : Chan
  follower : Chan
  share : Nat
  deriving DecidableEq, Repr

/-- The carrier record: P and the eight offsets (R170). -/
structure CarrierRec where
  p : Nat
  offsets : Bank8 Nat
  deriving DecidableEq, Repr

/-- The DC-link record (R117). -/
structure DcRec where
  gU : Nat
  uv : Nat
  uvRelease : Nat
  brakeOff : Nat
  brakeOn : Nat
  ov : Nat
  minOn : Nat
  minOff : Nat
  onInc : Nat
  decay : Nat
  eLim : Nat
  deriving DecidableEq, Repr

/-- The settings of one external trip input (section 6.3). -/
structure XtSet where
  proc : XtProc
  route : Byte
  action : XtAction
  filter : Nat
  deriving DecidableEq, Repr

structure Chc where
  tables : Bank4 Table
  pairs : List Pair
  stCarrier : Option (Staged CarrierRec)
  stDcLink : Option (Staged DcRec)
  stXt : Option (Staged (Bank4 XtSet))
  deriving DecidableEq, Repr

/-! ### LPE -/

/-- A sample set (R24). -/
structure SampleSet where
  chan : Chan
  rawA : Nat
  rawB : Nat
  skew : Nat
  periodCount : Word
  deriving DecidableEq, Repr

/-- The kinds of jobs (R35). -/
inductive JobKind where
  | calibration | measuring | full
  deriving DecidableEq, Repr

/-- What a follower reads of its pair at a job's start: its leader's interpolated q demand and the share
(R46). -/
structure LeadIn where
  iqLead : Int
  share : Nat
  deriving DecidableEq, Repr

/-- The inputs a job reads once, at its start (R36). `offset` is the tandem offset held for a follower, `index` the
period index then in force, and `iqSheet` and `idSheet` the channel's interpolated demands for it. -/
structure JobIn where
  rawA : Nat
  rawB : Nat
  offA : Nat
  offB : Nat
  udc : Nat
  r : Nat
  angle : Word
  w : Word
  iqSheet : Int
  idSheet : Int
  vdFf : Int
  vqFf : Int
  ls : Option Nat
  offset : Int
  lead : Option LeadIn
  gains : Gains
  limits : Limits
  dSource : DSource
  table : FieldTable
  gI : Nat
  state : ChanState
  rampCause : RampCause
  iD : Int
  iQ : Int
  lastIdRef : Int
  lastIqRef : Int
  index : Nat
  p : Nat
  cmin : Nat
  deriving DecidableEq, Repr

/-- Whether and why a job in flight is void (R69): its channel became TRIPPED, or has been DISABLED. -/
inductive JobVoid where
  | no | tripped | disabled
  deriving DecidableEq, Repr

structure Job where
  set : SampleSet
  kind : JobKind
  left : Nat
  inp : JobIn
  late : Bool
  void : JobVoid
  deriving DecidableEq, Repr

/-- A history entry (section 4.5). -/
structure HistEntry where
  periodLow : Half
  thetaS : Nat
  id : Int
  iq : Int
  iqRef : Int
  vd : Int
  vq : Int
  limI : Bool
  limV : Bool
  skew : Nat
  deriving DecidableEq, Repr

/-- The statistics of the current servo cycle (R71). -/
structure Stats where
  commits : Nat
  idSum : Int
  iqSum : Int
  limI : Bool
  limV : Bool
  late : Bool
  noJob : Nat
  vd : Int
  vq : Int
  iqRef : Int
  deriving DecidableEq, Repr

/-- LPE's state of one channel. -/
structure LpeCh where
  iD : Int
  iQ : Int
  idRef : Int
  iqRef : Int
  vd : Int
  vq : Int
  angle : Word
  w : Word
  hist : List HistEntry
  frozen : Bool
  stats : Stats
  lateTotal : Nat
  /-- A job has ended with SOFT_OC before its zero: the period that ends there counts as one without a job (R40). -/
  noJobDue : Bool
  deriving DecidableEq, Repr

inductive CapState where
  | free | active | draining | ending
  deriving DecidableEq, Repr

/-- An entry of a capture FIFO: its number, when it was tapped, and its words (R75, R76). -/
structure CapEntry where
  number : Nat
  tap : Nat
  words : List Word
  deriving DecidableEq, Repr

/-- A capture context (section 4.6). -/
structure CapCtx where
  state : CapState
  tag : Half
  chan : Chan
  mask : BitVec 7
  decim : Nat
  decCount : Nat
  count : Nat
  produced : Nat
  drops : Nat
  addr : Word
  fifo : List CapEntry
  inFlight : Bool
  result : Result
  slot : Option Nat
  deriving DecidableEq, Repr

structure Lpe where
  ready : List SampleSet
  engine : Option Job
  cap0 : CapCtx
  cap1 : CapCtx
  taps : Nat
  deriving DecidableEq, Repr

/-! ### TRU and DLS -/

/-- One overcurrent comparator input with its filter (R108). -/
structure OcIn where
  active : Bool
  count : Nat
  due : Bool
  deriving DecidableEq, Repr

/-- TRU's state of one channel. -/
structure TruCh where
  blank : Nat
  blankDue : Bool
  /-- The filters have returned to 0 in this tick and count again from the next (the model's own mark, log 2). -/
  fresh : Bool
  oc : Bank3 OcIn
  gfLow : Bool
  gfCount : Nat
  gfDue : Bool
  cause : Option TripCause
  detail : Nat
  later : BitVec 12
  action : TripAction
  deriving DecidableEq, Repr

/-- One external trip input (R110). -/
structure Xt where
  raw : Bool
  level : Bool
  count : Nat
  set : XtSet
  deriving DecidableEq, Repr

/-- A trip record as fixed at the trip (R114). -/
structure TripRecord where
  chan : Chan
  seq : Word
  cause : TripCause
  detail : Nat
  action : TripAction
  stateLeft : ChanState
  rampCause : RampCause
  s : Word
  periodCount : Word
  iD : Int
  iQ : Int
  idRef : Int
  iqRef : Int
  vd : Int
  vq : Int
  udc : Nat
  hist : List HistEntry
  deriving DecidableEq, Repr

/-- TRU's state of the part. `xtLoad`: the filtered levels still take the raw levels after a reset. -/
structure Tru where
  xt : Bank4 Xt
  xtLoad : Bool
  dumpSeq : Word
  dumps : List TripRecord
  deriving DecidableEq, Repr

structure Dls where
  dc : DcRec
  armed : Bool
  uvRun : Bool
  ovRun : Bool
  chopper : Bool
  onTime : Nat
  offTime : Nat
  e : Nat
  hot : Bool
  deriving DecidableEq, Repr

/-! ### EXC -/

/-- An entry of a demand sheet, as read (R134). -/
structure Entry where
  chan : Chan
  iq : Int
  angle : Half
  w : Word
  d : Option Int
  ff : Option (Int × Int)
  ls : Option Nat
  offset : Option Int
  deriving DecidableEq, Repr

structure Sheet where
  entries : List Entry
  deriving DecidableEq, Repr

/-- A channel's application record (R142). -/
inductive AppRec where
  | empty
  | hold
  | entry (e : Entry)
  deriving DecidableEq, Repr

/-- An interpolation state (R145). -/
structure Interp where
  prev : Int
  target : Int
  ni : Nat
  deriving DecidableEq, Repr

/-- EXC's state of one channel. -/
structure ExcCh where
  miss : Nat
  app : AppRec
  q : Interp
  d : Interp
  vdFf : Int
  vqFf : Int
  ls : Option Nat
  offset : Int
  angleValid : Bool
  deriving DecidableEq, Repr

/-- The directory copy (R125). -/
structure Directory where
  n : Nat
  l : Nat
  k : Nat
  mask : Byte
  reportEnable : Bool
  deriving DecidableEq, Repr

/-- The fetch in hand: the slot it reads and whether MPT holds it (R138). -/
structure Fetch where
  slot : Nat
  handed : Bool
  deriving DecidableEq, Repr

/-- A report: its words, its slot and whether it is the final report (R148). -/
structure Report where
  words : List Word
  slot : Nat
  final : Bool
  deriving DecidableEq, Repr

/-- The sheet counters (R140, R141, R144), saturating at 65,535. -/
structure SheetCounters where
  torn : Nat
  stale : Nat
  parity : Nat
  form : Nat
  port : Nat
  lateFetch : Nat
  skipped : Nat
  jumps : Nat
  deriving DecidableEq, Repr

/-- How a taken order is answered (R158). -/
inductive Answer where
  | active
  | done (r : Result) (stamp : Word)
  deriving DecidableEq, Repr

/-- A claimed order: its block address, header words 0 and 2 as read, its slot, its body as read and its
answer once it is taken. -/
structure Claimed where
  addr : Word
  w0 : Word
  w2 : Word
  slot : Option Nat
  body : List Word
  bodyOk : Bool
  answer : Option Answer
  deriving DecidableEq, Repr

/-- The next step of a walk (R153). -/
inductive WalkStage where
  | pointer
  | header (addr : Word)
  | claim
  | body
  | take
  | answer
  deriving DecidableEq, Repr

structure Walk where
  stage : WalkStage
  taken : Nat
  claimed : Option Claimed
  deriving DecidableEq, Repr

/-- An order in its slot. `begun`: its ACTIVE write has begun. `early`: it completed before that (R158). -/
structure SlotOrder where
  addr : Word
  w0 : Word
  w2 : Word
  fixed : Result
  begun : Bool
  early : Option (Result × Word)
  deriving DecidableEq, Repr

/-- An order slot (R160): available, reserved by a claim, holding an order in flight, or waiting for the
end of the DONE write of the order it last held. -/
inductive Slot where
  | free
  | reserved
  | held (o : SlotOrder)
  | writing
  deriving DecidableEq, Repr

/-- A DONE write on the write-back list (R161). -/
structure DoneWrite where
  addr : Word
  w0 : Word
  w2 : Word
  result : Result
  stamp : Word
  slot : Nat
  deriving DecidableEq, Repr

structure Exc where
  state : XState
  dir : Directory
  firstGo : Bool
  dirWanted : Bool
  lastStamp : Word
  accepted : Bool
  sinceGo : Bool
  sheetDue : Bool
  fetch : Option Fetch
  fetchDiscard : Bool
  sheet : Option Sheet
  mark0 : Word
  mark1 : Word
  counters : SheetCounters
  reportFails : Nat
  reportWaiting : Option Report
  ready : Bool
  finalTaken : Bool
  position : Option Word
  walk : Option Walk
  walkFails : Nat
  halted : Bool
  slots : List Slot
  writeBack : List DoneWrite
  deriving DecidableEq, Repr

/-! ### MPT and CRW -/

/-- Bus ownership (R177). -/
inductive BusState where
  | released | requesting | owning | parked
  deriving DecidableEq, Repr

/-- The requesters, from highest to lowest priority (R179). -/
inductive Requester where
  | sheetFetch | reportWrite | tripDump | orderWalk | capture
  deriving DecidableEq, Repr

/-- What a sequence is (R179). `notify`: it writes DONE to a block with NOTIFY set. -/
inductive SeqKind where
  | directory
  | sheet
  | report (final : Bool)
  | dump
  | pointer
  | header
  | claim
  | body
  | answer (notify : Bool)
  | done (notify : Bool)
  | capture (ctx : Bool)
  deriving DecidableEq, Repr

/-- What the ORDER_WALK requester has pending: the next step of the walk, or the oldest DONE write. -/
inductive WalkReq where
  | step | writeBack
  deriving DecidableEq, Repr

/-- The running sequence. `addrs` are the addresses of its words in the order carried, `wdata` what it
writes (none for a read), `next` the position of the next word. -/
structure Seq where
  kind : SeqKind
  addrs : List Word
  wdata : List Word
  next : Nat
  carried : List Word
  parity : Bool
  restarts : Nat
  suspended : Bool
  dataClock : Nat
  addrNext : Bool
  deriving DecidableEq, Repr

/-- A sequence that has ended and whose end its requester has still to take. -/
structure Ended where
  kind : SeqKind
  out : PortOutcome
  words : List Word
  deriving DecidableEq, Repr

/-- MPT's state. `edge`: a port clock edge falls on the current tick and MPT has not acted at it yet; `phase`: the
next tick has an edge (R179). `offClock`: the port clock of request off after a release (R177). -/
structure Mpt where
  bus : BusState
  offClock : Bool
  pFetch : Option (Option Nat)
  pReport : Option Report
  pDump : Bool
  pWalk : Option WalkReq
  pCapture : Option Bool
  seq : Option Seq
  ended : List Ended
  fails : Nat
  clockOn : Bool
  phase : Bool
  edge : Bool
  deriving DecidableEq, Repr

/-- CRW's state. `refTick` is the place of the tick within the reference period and `windowOn` says that the
first reference edge of a comparator window has come (R187, log 4). -/
structure Crw where
  held : Bool
  softHold : Option Nat
  straps : Straps
  clock : ClockState
  attempts : Nat
  refCount : Nat
  tickCount : Nat
  windowOn : Bool
  refTick : Nat
  base : Word
  notice : Byte
  enable : Byte
  reason : Reason
  deriving DecidableEq, Repr

/-- The input pins of the part whose level a rule reads outside their own block. -/
structure Pins where
  permit : Bool
  grant : Bool
  deriving DecidableEq, Repr

/-- All a channel has, block by block. -/
structure Channel where
  mod : ModCh
  smu : SmuCh
  lpe : LpeCh
  chc : ChcCh
  tru : TruCh
  exc : ExcCh
  deriving DecidableEq, Repr

end Sys2Proof.Machine
end

