-- ==== Sys2Proof/Machine/Resets.lean ====
section
/-! DEFINITION. The reset values of every block's records (R19, R34, R63, R79, R102, R122, R123, R125, R151,
R176, R185, R186 and the default values of 00_scope.md). -/

namespace Sys2Proof.Machine

/-- P after a reset (R1). -/
def resetP : Nat := 3125

/-- The neutral compare value Cn of a half-period P (R10). -/
def neutral (p : Nat) : Nat := (p * 32768 + 32768) / 65536

/-- Cn on all three legs. -/
def neutralSet (p : Nat) : Compare := Bank3.const (neutral p)

/-- The reset offset of channel c (R4). -/
def resetOffset (c : Chan) : Nat := c.val * resetP / 4

/-- A leg whose switches have been off long enough (R19, hardware reset). -/
def LegGate.reset : LegGate := ⟨.none, false, false, 255, 255⟩

/-- MOD's channel state after a reset, with the given legs (R19). No first zero of a cycle is to come: the period
index counts on from 0 until the first boundary (log 44), and the index before the latest zero is 0 (log 49). -/
def ModCh.reset (c : Chan) (legs : Bank3 LegGate) : ModCh :=
  { offset := resetOffset c, periodCount := 0, index := 0, indexBefore := 0, newCycle := false,
    zeroDue := false, zeroTaken := false, peakDue := false, shadow := none,
    active := neutralSet resetP, legs := legs, pulses := 0, pulse := none }

/-- MOD's state of the part after a reset, with the carriers stopped (R19). -/
def Mod.reset : Mod :=
  { running := false, tauRef := 0, j := 0, s := 0, n := 8, l := 1, pendingNL := none, p := resetP,
    refDue := false, fetchDue := false }

def Converter.idle : Converter := ⟨none, none⟩

/-- SMU's channel state after a reset (R34). -/
def SmuCh.reset : SmuCh := ⟨2048, 2048, 0, 0, 0⟩

/-- The DC link after a reset (R34). -/
def Link.reset : Link := ⟨0, false, 0, 53687, 0, 0⟩

/-- The default gains group (00_scope.md, Default values). -/
def Gains.reset : Gains := ⟨1024, 0, 1024, 0, 0, 0, 0, 24, false⟩

/-- The default limits group (00_scope.md, Default values). -/
def Limits.reset : Limits := ⟨16000, 8000, 30000, 64, 512, 31130, 2048, .lenient⟩

/-- The default mode group (00_scope.md, Default values). -/
def Mode.reset : Mode :=
  { dSource := .zero, table := 0, interp := .ramp, tripAction := .pulseBlock, angleOffset := 0,
    gI := 4096, window := 160, pulses := 8, width := 500, deadtime := 100, cmin := 20,
    blanking := 100, ocFilter := 20, gfFilter := 50 }

/-- CHC's channel state after a reset (R102). -/
def ChcCh.reset : ChcCh :=
  ⟨.disabled, .none, none, Gains.reset, Limits.reset, Mode.reset, none, none⟩

/-- CHC's state of the part after a reset (R102). -/
def Chc.reset : Chc := ⟨Bank4.const ⟨[], none⟩, [], none, none, none⟩

def Stats.clear : Stats := ⟨0, 0, 0, false, false, false, 0, 0, 0, 0⟩

/-- LPE's channel state after a reset (R63, R79, R19 for A and w), with no period of a SOFT_OC job to count (log
49). -/
def LpeCh.reset : LpeCh := ⟨0, 0, 0, 0, 0, 0, 0, 0, [], false, Stats.clear, 0, false⟩

/-- A FREE capture context. R79 gives it no entries and no order; the values of its other items, which have no effect
before a CAPTURE fills them, are the model's (log 39). -/
def CapCtx.free : CapCtx :=
  { state := .free, tag := 0, chan := 0, mask := 0, decim := 1, decCount := 0, count := 0,
    produced := 0, drops := 0, addr := 0, fifo := [], inFlight := false, result := .ok, slot := none }

/-- LPE's state of the part after a reset (R79); the taps count from 0 (log 49). -/
def Lpe.reset : Lpe := ⟨[], none, CapCtx.free, CapCtx.free, 0⟩

/-- TRU's channel state after a reset, with the levels of its input pins (R122). The filters count from the next tick on
(log 2). -/
def TruCh.reset (oc : Bank3 Bool) (gfLow : Bool) : TruCh :=
  { blank := 0, blankDue := false, fresh := true, oc := oc.map (fun a => ⟨a, 0, false⟩), gfLow := gfLow,
    gfCount := 0, gfDue := false, cause := none, detail := 0, later := 0, action := .pulseBlock }

/-- The settings of an external input after a reset (section 6.3). -/
def XtSet.reset : XtSet := ⟨.disabled, 0, .trip, 100⟩

/-- An external input after a reset, before the first tick takes the raw level (R110). -/
def Xt.reset (raw : Bool) : Xt := ⟨raw, raw, 0, XtSet.reset⟩

/-- TRU's state of the part after a reset, with the raw levels of its inputs (R122). -/
def Tru.reset (raw : Bank4 Bool) : Tru := ⟨raw.map Xt.reset, true, 0, []⟩

/-- The DC-link record after a reset (R117). -/
def DcRec.reset : DcRec := ⟨2048, 12000, 13000, 25000, 26000, 29000, 2000, 2000, 256, 16, 1000000⟩

/-- DLS after a hardware reset (R123). -/
def Dls.reset : Dls := ⟨DcRec.reset, false, false, false, false, 0, 65535, 0, false⟩

/-- EXC's channel state after a reset (R151). -/
def ExcCh.reset : ExcCh := ⟨0, .empty, ⟨0, 0, 8⟩, ⟨0, 0, 8⟩, 0, 0, none, 0, false⟩

/-- The directory copy after a reset (R125). -/
def Directory.reset : Directory := ⟨8, 1, 3, 0, false⟩

/-- EXC's state of the part after a reset (R125, R151, R176). DESIGN CHOICE, unsafe: the ready mark of R130 and the
other marks that no table lists (final report taken, directory read wanted, sheet due, fetch to be discarded) are
clear (log 49). -/
def Exc.reset : Exc :=
  { state := .stopped, dir := Directory.reset, firstGo := true, dirWanted := false, lastStamp := 0,
    accepted := false, sinceGo := false, sheetDue := false, fetch := none, fetchDiscard := false,
    sheet := none, mark0 := 0, mark1 := 0, counters := ⟨0, 0, 0, 0, 0, 0, 0, 0⟩, reportFails := 0,
    reportWaiting := none, ready := false, finalTaken := false, position := none, walk := none,
    walkFails := 0, halted := false, slots := List.replicate 16 .free, writeBack := [] }

/-- MPT after a hardware reset (R185); the phase of its clock and the mark of a clock with request
off, which its table does not list, are clear (log 49). -/
def Mpt.reset : Mpt :=
  { bus := .released, offClock := false, pFetch := none, pReport := none, pDump := false,
    pWalk := none, pCapture := none, seq := none, ended := [], fails := 0, clockOn := false,
    phase := false, edge := false }

/-- The base a BASE_SEL strap value sets (R186). -/
def strapBase (b : BitVec 2) : Word := BitVec.ofNat 32 (b.toNat * 0x00400000)

/-- CRW with the reset input asserted (`held`) or just released with these straps (R186, R187); the comparator's counts
are 0 and no window has begun (log 49). -/
def Crw.reset (held : Bool) (straps : Straps) : Crw :=
  { held := held, softHold := none, straps := straps, clock := .locking, attempts := 0, refCount := 0,
    tickCount := 0, windowOn := false, refTick := 0, base := strapBase straps.baseSel, notice := 0, enable := 0,
    reason := .none }

/-- A channel after a hardware reset, with the levels of its input pins. -/
def Channel.reset (c : Chan) (oc : Bank3 Bool) (gfLow : Bool) : Channel :=
  { mod := ModCh.reset c (Bank3.const LegGate.reset), smu := SmuCh.reset, lpe := LpeCh.reset,
    chc := ChcCh.reset, tru := TruCh.reset oc gfLow, exc := ExcCh.reset }

/-- Straps at level 0. DESIGN CHOICE: the levels of `State.reset` (log 3). -/
def Straps.low : Straps := ⟨0, false, false, 0⟩

end Sys2Proof.Machine
end

