-- ==== Sys2Proof/Machine/State.lean ====
section
/-! DEFINITION. The state of the PD-4608 as plain data, its reset, and the reasons a step can stop. -/

namespace Sys2Proof.Machine

/-- Everything the spec gives the part, block by block, and the queue of waiting commands. -/
structure State where
  pins : Pins
  crw : Crw
  mod : Mod
  conv : Bank4 Converter
  link : Link
  lpe : Lpe
  chc : Chc
  tru : Tru
  dls : Dls
  exc : Exc
  mpt : Mpt
  ch : Bank8 Channel
  /-- The commands that wait, first in first out (the model's own, log 1). -/
  pending : List Instr
  /-- The filters of the current tick have been counted (the model's own, log 2). -/
  counted : Bool
  /-- How many free choices have been drawn (the model's own, log 7). -/
  draws : Nat
  deriving DecidableEq, Repr

/-- Why a step stops. -/
inductive Fault where
  /-- The command term stands for no command of the part (URGENT_UNKNOWN_CODE with a known code,
  REGISTER_WRITE_IGNORED at a register that takes writes). Raised by the meanings of those two. Safe. -/
  | notACommand
  deriving DecidableEq, Repr

/-- Why a command is refused. -/
inductive Refusal where
  /-- The command has no meaning yet. Raised by no arm of this model. Safe. -/
  | notModelled (mnemonic : String)
  deriving DecidableEq, Repr

/-- What a step or a command answers. -/
abbrev Answered := Host.Outcome State Fault Refusal

/-- The part under hardware reset or just after it, with the given straps and input pin levels (R186). -/
def State.afterReset (held : Bool) (straps : Straps) (pins : Pins) (raw : Bank4 Bool)
    (oc : Bank8 (Bank3 Bool)) (gf : Bank8 Bool) : State :=
  { pins := pins, crw := Crw.reset held straps, mod := Mod.reset, conv := Bank4.const Converter.idle,
    link := Link.reset, lpe := Lpe.reset, chc := Chc.reset, tru := Tru.reset raw, dls := Dls.reset,
    exc := Exc.reset, mpt := Mpt.reset,
    ch := Bank8.ofFn (fun c => Channel.reset c (oc.get c) (gf.get c)),
    pending := [], counted := false, draws := 0 }

/-- The machine right after the release of a hardware reset, in LOCKING (R187).
DESIGN CHOICE, unsafe: strap levels 0, PERMIT and grant inactive, comparators inactive, gate-fault
inputs high, external trip inputs high (logs 3 and 5). -/
def State.reset : State :=
  State.afterReset false Straps.low ⟨false, false⟩ (Bank4.const true)
    (Bank8.ofFn fun _ => Bank3.const false) (Bank8.ofFn fun _ => false)

end Sys2Proof.Machine
end

