-- ==== Sys2Proof/Machine/Flags.lean ====
section
/-! DEFINITION. Codes of states, causes and results as the formats show them, the notices and the rejection
reason, and the register window's read values (R103, R125, R135, R175, R189 to R191). -/

namespace Sys2Proof.Machine

/-! ### Codes -/

/-- The channel state codes of reports and trip records (R135). -/
def ChanState.code : ChanState → Nat
  | .disabled => 0
  | .calibrating => 1
  | .charging => 2
  | .armed => 3
  | .running => 4
  | .rampdown => 5
  | .tripped => 6

/-- The ramp cause codes (R135). -/
def RampCause.code : RampCause → Nat
  | .none => 0
  | .stop => 1
  | .demandLoss => 2
  | .quiesce => 3
  | .fastStop => 4

/-- The trip cause codes (R103). -/
def TripCause.code : TripCause → Nat
  | .overcurrent => 1
  | .softOc => 2
  | .gateFault => 3
  | .permitLost => 4
  | .overvoltage => 5
  | .undervoltage => 6
  | .external => 7
  | .clock => 8
  | .angleJump => 9
  | .partner => 10
  | .stopEscalated => 11

/-- The causes whose trip action is always PULSE_BLOCK (R103). -/
def TripCause.forced : TripCause → Bool
  | .overcurrent | .softOc | .gateFault | .permitLost => true
  | .overvoltage | .undervoltage | .external | .clock | .angleJump | .partner | .stopEscalated => false

def TripAction.code : TripAction → Nat
  | .pulseBlock => 0
  | .lowShort => 1

/-- The number of a phase as cause detail (R103). -/
def legCode : Leg → Nat
  | .a => 0
  | .b => 1
  | .c => 2

/-- The exchange state codes (R125). -/
def XState.code : XState → Nat
  | .stopped => 0
  | .starting => 1
  | .running => 2
  | .quiescing => 3
  | .quiesced => 4

/-- The clock state codes (R189). -/
def ClockState.code : ClockState → Nat
  | .locking => 0
  | .checking => 1
  | .valid => 2
  | .failed => 3

/-- The rejection reason codes (R189). -/
def Reason.code : Reason → Nat
  | .none => 0
  | .goState => 1
  | .directoryRead => 2
  | .version => 3
  | .quiesceState => 4
  | .baseState => 5
  | .unknownCode => 6

/-- The result codes (R175). -/
def Result.code : Result → Nat
  | .ok => 0
  | .adjusted => 1
  | .wrongState => 2
  | .badField => 3
  | .noRoom => 4
  | .busy => 5
  | .wrongRole => 6
  | .noPermit => 8
  | .undervoltage => 9
  | .quiesced => 10
  | .offsetRange => 11
  | .aborted => 12
  | .tripped => 13
  | .causePresent => 14
  | .noTarget => 15
  | .unknownKind => 16
  | .badLength => 17
  | .bodyError => 18
  | .lossy drops => 128 + min drops 127

/-- The order kind of a kind code (R159). -/
def orderKind : Nat → Option OrderKind
  | 1 => some .setGains
  | 2 => some .setLimits
  | 3 => some .setChannelMode
  | 4 => some .loadFieldTable
  | 5 => some .setPair
  | 6 => some .clearPair
  | 7 => some .setCarrier
  | 8 => some .setDcLink
  | 9 => some .setTripInputs
  | 10 => some .start
  | 11 => some .run
  | 12 => some .stop
  | 13 => some .disable
  | 14 => some .release
  | 15 => some .capture
  | 16 => some .cancel
  | _ => none

/-- The kinds that need an order slot (R159). -/
def OrderKind.needsSlot : OrderKind → Bool
  | .setGains | .setLimits | .loadFieldTable | .setCarrier | .setDcLink | .setTripInputs | .start | .run
  | .stop | .capture => true
  | .setChannelMode | .setPair | .clearPair | .disable | .release | .cancel => false

/-- The kinds whose channel field names a channel (R159). -/
def OrderKind.perChannel : OrderKind → Bool
  | .loadFieldTable | .setCarrier | .setDcLink | .setTripInputs | .cancel => false
  | .setGains | .setLimits | .setChannelMode | .setPair | .clearPair | .start | .run | .stop | .disable
  | .release | .capture => true

/-! ### Notices -/

/-- The bit of a notice (R189). -/
def Notice.bit : Notice → Nat
  | .report => 0
  | .order => 1
  | .trip => 2
  | .demand => 3
  | .quiesced => 4
  | .port => 5
  | .clock => 6
  | .rejected => 7

/-- A notice is raised: its bit is set, and stays set if it was (R191). -/
def State.raise (s : State) (n : Notice) : State :=
  { s with crw := { s.crw with notice := s.crw.notice ||| BitVec.ofNat 8 (2 ^ n.bit) } }

/-- A notice is raised when a condition holds. -/
def State.raiseIf (s : State) (b : Bool) (n : Notice) : State := if b then s.raise n else s

/-- Whether a notice bit is set. -/
def State.noticed (s : State) (n : Notice) : Bool := s.crw.notice.getLsbD n.bit

/-- REJECTED is set with its reason, which replaces the one before (R190). -/
def State.reject (s : State) (r : Reason) : State :=
  { s with crw := { s.crw with notice := s.crw.notice ||| BitVec.ofNat 8 (2 ^ Notice.rejected.bit),
                               reason := r } }

/-- The notice line is asserted while a set notice bit is enabled (R191); released under hardware reset (R186). -/
def State.noticeLine (s : State) : Bool := !s.crw.held && (s.crw.notice &&& s.crw.enable) != 0

/-! ### The register window, read side -/

/-- IDENT (R189). -/
def identWord : Word := 0xE4146081

/-- STATE (R189). DESIGN CHOICE, unsafe: bits 3, 7 and 15 to 12, which the table gives no field, read 0 (log 52). -/
def State.stateWord (s : State) : Word :=
  BitVec.ofNat 32 (s.exc.state.code + 16 * s.crw.clock.code + (if s.exc.halted then 64 else 0)
    + 256 * s.crw.reason.code + 65536 * (s.mod.s.toNat % 65536))

/-- What a read of an offset of the window returns; the window does not answer under hardware reset (R186, R189). DESIGN
CHOICE, unsafe: bits 31 to 8 of NOTICE and NOTICE_ENABLE, which the table gives no field, read 0 (log 52). -/
def readRegister (s : State) (offset : Nat) : Option Word :=
  if s.crw.held then none
  else if offset = 0x00 then some identWord
  else if offset = 0x04 then some s.crw.base
  else if offset = 0x08 then some 0
  else if offset = 0x0C then some s.stateWord
  else if offset = 0x10 then some (s.crw.notice.setWidth 32)
  else if offset = 0x14 then some (s.crw.enable.setWidth 32)
  else some 0

end Sys2Proof.Machine
end

