-- ==== Sys2Proof/Machine/Gates.lean ====
section
/-! DEFINITION. Shared operations on channels and gates: effective timing values, gate sources, wanted states,
latches under deadtime and PERMIT, blanking windows (R7, R10, R12 to R18, R107). -/

namespace Sys2Proof.Machine

/-- Channel c. -/
def State.chan (s : State) (c : Chan) : Channel := s.ch.get c

/-- Channel c replaced. -/
def State.setChan (s : State) (c : Chan) (x : Channel) : State := { s with ch := s.ch.set c x }

/-- Channel c changed by f. -/
def State.modChan (s : State) (c : Chan) (f : Channel → Channel) : State := s.setChan c (f (s.chan c))

/-- The channel state of channel c. -/
def State.cstate (s : State) (c : Chan) : ChanState := (s.chan c).chc.state

/-! ### Effective timing values (R7) -/

/-- The effective deadtime. -/
def effDeadtime (m : Mode) (p : Nat) : Nat := min m.deadtime (p / 4)

/-- The effective minimum pulse. -/
def effCmin (m : Mode) (p : Nat) : Nat := min m.cmin (p / 8)

/-- The effective charge width. -/
def effWidth (m : Mode) (p : Nat) : Nat := min m.width p

/-! ### Carriers (R4) -/

/-- The position of the carrier of a channel with offset o (R4). -/
def carrierPos (tauRef o p : Nat) : Nat := (tauRef + (2 * p - o % (2 * p))) % (2 * p)

/-- The carrier count at a position (R4). -/
def carrierCount (tau p : Nat) : Nat := if tau ≤ p then tau else 2 * p - tau

/-- Channel c's carrier count now. -/
def State.count (s : State) (c : Chan) : Nat :=
  carrierCount (carrierPos s.mod.tauRef (s.chan c).mod.offset s.mod.p) s.mod.p

/-! ### Gate sources and wanted states -/

/-- The gate source of a channel state, with the trip action in force (R13). -/
def gateSource (st : ChanState) (action : TripAction) : GateSource :=
  match st with
  | .disabled | .calibrating | .armed => .off
  | .charging => .charge
  | .running | .rampdown => .modulator
  | .tripped => match action with
    | .pulseBlock => .off
    | .lowShort => .short

/-- The gate source of a channel (R13). -/
def Channel.source (ch : Channel) : GateSource := gateSource ch.chc.state ch.tru.action

/-- What a modulated leg wants at a carrier count: C = 0 and C = P hold the leg still (R12). -/
def modWant (count cmp p : Nat) : Want :=
  if cmp = 0 then .lower else if p ≤ cmp then .upper else if count < cmp then .upper else .lower

/-- What a leg of a channel wants, given its gate source and carrier count (R12, R13, R15, R16). -/
def Channel.legWant (ch : Channel) (count p : Nat) (leg : Leg) : Want :=
  match ch.source with
  | .off => .none
  | .short => .lower
  | .charge => if ch.mod.pulse.isSome then .lower else .none
  | .modulator => modWant count (ch.mod.active.get leg) p

/-! ### Latches (R14, R17, R18) -/

/-- One leg follows what it wants: a switch not wanted, or without PERMIT, is off at once and its off-time
restarts; a wanted one turns on if its complement has been off for the deadtime (R14, R17). -/
def LegGate.settle (permit : Bool) (d : Nat) (g : LegGate) : LegGate :=
  let u := g.latchU && g.want == .upper && permit
  let l := g.latchL && g.want == .lower && permit
  let offU := if g.latchU && !u then 0 else g.offU
  let offL := if g.latchL && !l then 0 else g.offL
  { want := g.want,
    latchU := u || (permit && g.want == .upper && !l && decide (d ≤ offL)),
    latchL := l || (permit && g.want == .lower && !u && decide (d ≤ offU)),
    offU := offU, offL := offL }

/-- Whether a latch of the leg differs between two moments: an edge (R18). -/
def LegGate.edge (x y : LegGate) : Bool := x.latchU != y.latchU || x.latchL != y.latchL

/-- A latch edge sets the window to B; while it is open the comparator counts are 0 (R107, R108). -/
def Channel.openWindow (ch : Channel) : Channel :=
  { ch with tru := { ch.tru with
      blank := ch.chc.mode.blanking, blankDue := false,
      oc := if ch.chc.mode.blanking = 0 then ch.tru.oc else ch.tru.oc.map (fun o => { o with count := 0 }) } }

/-- The legs of a channel follow what they want; an edge of any latch opens the blanking window
(R14, R17, R18). -/
def Channel.settle (permit : Bool) (p : Nat) (ch : Channel) : Channel :=
  let legs := ch.mod.legs.map (LegGate.settle permit (effDeadtime ch.chc.mode p))
  let ch' := { ch with mod := { ch.mod with legs := legs } }
  if LegGate.edge ch.mod.legs.a legs.a || LegGate.edge ch.mod.legs.b legs.b
      || LegGate.edge ch.mod.legs.c legs.c
  then ch'.openWindow else ch'

/-- One leg of a channel follows what it wants, the others stay; an edge of its latches opens the blanking window
(R14, R17, R18). -/
def Channel.settleLeg (permit : Bool) (p : Nat) (leg : Leg) (ch : Channel) : Channel :=
  let g := ch.mod.legs.get leg
  let g' := g.settle permit (effDeadtime ch.chc.mode p)
  let ch' := { ch with mod := { ch.mod with legs := ch.mod.legs.set leg g' } }
  if LegGate.edge g g' then ch'.openWindow else ch'

/-- Every leg takes the want its source gives at a carrier count, and the latches follow. -/
def Channel.rewant (permit : Bool) (p count : Nat) (ch : Channel) : Channel :=
  let w := fun leg => ch.legWant count p leg
  let legs : Bank3 LegGate :=
    ⟨{ ch.mod.legs.a with want := w .a }, { ch.mod.legs.b with want := w .b },
     { ch.mod.legs.c with want := w .c }⟩
  Channel.settle permit p { ch with mod := { ch.mod with legs := legs } }

/-- After a change of state or trip action: away from MODULATOR the shadow is emptied and the active set is
neutral (R10), and the legs want what the new source gives (R13). Within MODULATOR nothing changes. -/
def Channel.resource (permit : Bool) (p count : Nat) (before : GateSource) (ch : Channel) : Channel :=
  match before, ch.source with
  | .modulator, .modulator => ch
  | _, _ =>
    Channel.rewant permit p count
      { ch with mod := { ch.mod with shadow := none, active := neutralSet p } }

/-- Channel c's latches follow what its legs want (R14, R17). -/
def State.settleGates (s : State) (c : Chan) : State :=
  s.modChan c (Channel.settle s.pins.permit s.mod.p)

/-! ### Gate outputs (section 1.6) -/

/-- The gate output of a switch: its latch, and off while the hardware reset input is asserted (R19). -/
def State.gateOut (s : State) (c : Chan) (leg : Leg) (upper : Bool) : Bool :=
  let g := (s.chan c).mod.legs.get leg
  !s.crw.held && (if upper then g.latchU else g.latchL)

/-- The brake chopper output (R120, R186). -/
def State.brakeOut (s : State) : Bool := !s.crw.held && s.dls.chopper

end Sys2Proof.Machine
end

