-- ==== Sys2Proof/Machine/Operands.lean ====
section
/-! DEFINITION. Reading and writing the formats of chapter 7: word fields, demand sheets, the directory, order
blocks and bodies, history entries, trip records, capture entries (R133 to R137, R164). -/

namespace Sys2Proof.Machine

/-! ### Fields -/

/-- Bits lo .. lo+width-1 of a word. -/
def bits (w : Word) (lo width : Nat) : Nat := w.toNat / 2 ^ lo % 2 ^ width

/-- A word of two 16-bit halves, low half first; each value is taken modulo 2^16. -/
def pack (lo hi : Int) : Word := BitVec.ofInt 16 hi ++ BitVec.ofInt 16 lo

/-- The low half of a word as an unsigned value. -/
def loHalf (w : Word) : Nat := bits w 0 16

/-- The high half of a word as an unsigned value. -/
def hiHalf (w : Word) : Nat := bits w 16 16

/-- A signed 16-bit half; -32768 is read as -32767 (R134, R164). -/
def signedHalf (n : Nat) : Int := max (-32767) (BitVec.ofNat 16 n).toInt

/-! ### Demand sheets (R134) -/

/-- One entry from the words at its start: the entry and the words after it; none if they are too few, bits
7:4 of word 0 are not 0, or the channel number is not the expected one. -/
def readEntry (c : Chan) : List Word → Option (Entry × List Word)
  | w0 :: w1 :: w2 :: rest0 =>
    if bits w0 4 4 != 0 || bits w0 8 8 != c.val then none
    else
      let opt : Bool → List Word → Option (Option Word × List Word) := fun present ws =>
        match present, ws with
        | false, ws => some (none, ws)
        | true, w :: ws => some (some w, ws)
        | true, [] => none
      match opt (w0.getLsbD 0) rest0 with
      | none => none
      | some (d, rest1) =>
        match opt (w0.getLsbD 1) rest1 with
        | none => none
        | some (ff, rest2) =>
          match opt (w0.getLsbD 2) rest2 with
          | none => none
          | some (ls, rest3) =>
            match opt (w0.getLsbD 3) rest3 with
            | none => none
            | some (tof, rest4) =>
              some ({ chan := c, iq := signedHalf (hiHalf w0), angle := BitVec.ofNat 16 (loHalf w1), w := w2,
                      d := d.map fun x => signedHalf (loHalf x),
                      ff := ff.map fun x => (signedHalf (loHalf x), signedHalf (hiHalf x)),
                      ls := ls.map fun x => min (loHalf x) 32768,
                      offset := tof.map fun x => signedHalf (loHalf x) }, rest4)
  | _ => none

/-- The entries of the given channels, in order, and the words after them. -/
def readEntries : List Chan → List Word → Option (List Entry × List Word)
  | [], ws => some ([], ws)
  | c :: cs, ws =>
    match readEntry c ws with
    | none => none
    | some (e, rest) =>
      match readEntries cs rest with
      | none => none
      | some (es, last) => some (e :: es, last)

/-- The channels named in an eight-bit mask, ascending. -/
def maskChans (m : Byte) : List Chan := Chan.all.filter fun c => m.getLsbD c.val

/-- The sheet in the words of a fetch, or none when its form fails (R134). -/
def readSheet (ws : List Word) : Option Sheet :=
  let w1 := ws.getD 1 0
  let len := bits w1 16 8
  if len < 5 || 128 < len then none
  else if bits w1 8 8 != 0 then none
  else
    match readEntries (maskChans (w1.setWidth 8)) (ws.drop 4) with
    | none => none
    | some (es, rest) => if rest.length = 1 && ws.length = len then some ⟨es⟩ else none

/-- The head stamp of a fetched sheet. -/
def headStamp (ws : List Word) : Word := ws.getD 0 0

/-- The tail stamp of a fetched sheet. -/
def tailStamp (ws : List Word) : Word := ws.getD (bits (ws.getD 1 0) 16 8 - 1) 0

/-- Stamp a is newer than stamp b (00_scope.md, Stamps). -/
def newer (a b : Word) : Bool := decide (1 ≤ (a - b).toNat) && decide ((a - b).toNat < 2 ^ 31)

/-! ### Directory (R127, R133) -/

/-- The layout version. -/
def dirVersion (ws : List Word) : Word := ws.getD 0 0

/-- N, L and K clamped, the in-service mask and the report-notice enable (R127). -/
def readDirectory (ws : List Word) : Directory :=
  let w1 := ws.getD 1 0
  let w2 := ws.getD 2 0
  let n := min (max (bits w1 0 8) 1) 16
  { n := n, l := min (max (bits w1 8 8) 1) n, k := min (max (bits w1 16 8) 1) 15,
    mask := w2.setWidth 8, reportEnable := w2.getLsbD 8 }

/-! ### Order blocks (R136) -/

/-- The state field of header word 0. -/
def blockState (w0 : Word) : Nat := bits w0 0 8

/-- The kind field of header word 0. -/
def blockKind (w0 : Word) : Nat := bits w0 8 8

/-- The NOTIFY flag of header word 0. -/
def blockNotify (w0 : Word) : Bool := w0.getLsbD 24

/-- The body length of header word 2. -/
def blockLength (w2 : Word) : Nat := bits w2 16 8

/-- Word 0 as written with a new state: kind, channel and flags as read (R136, log 24). -/
def blockWord0 (w0 : Word) (state : Nat) : Word :=
  (w0 &&& 0xFFFFFF00) ||| BitVec.ofNat 32 state

/-- Word 2 as written with a result code: tag and body length as read (R136). -/
def blockWord2 (w2 : Word) (r : Result) : Word :=
  (w2 &&& 0x00FFFFFF) ||| BitVec.ofNat 32 (r.code * 2 ^ 24)

/-- The addresses and words of a DONE form: words 2, 3 and 0 in that order (R158, R161). -/
def doneForm (addr w0 w2 : Word) (r : Result) (stamp : Word) : List Word × List Word :=
  ([addr + 8, addr + 12, addr], [blockWord2 w2 r, stamp, blockWord0 w0 4])

/-! ### Order bodies (R164) -/

/-- Body field i, unsigned. -/
def bodyField (o : Order) (i : Nat) : Nat :=
  let w := o.body.getD (i / 2) 0
  if i % 2 = 0 then loHalf w else hiHalf w

/-- Body field i, signed. -/
def bodySigned (o : Order) (i : Nat) : Int := signedHalf (bodyField o i)

/-- Two consecutive fields as one quantity, low half first. -/
def bodyWide (o : Order) (i : Nat) : Nat :=
  bodyField o i + 65536 * bodyField o (i + 1)

/-- The body words a kind needs (R159). -/
def OrderKind.need (k : OrderKind) (o : Order) : Nat :=
  match k with
  | .setGains => 5
  | .setLimits => 4
  | .setChannelMode => 7
  | .loadFieldTable => 1 + (if o.length.toNat = 0 then 0 else bodyField o 1)
  | .setPair => 1
  | .clearPair => 0
  | .setCarrier => 5
  | .setDcLink => 6
  | .setTripInputs => 8
  | .start | .run | .stop | .disable | .release => 0
  | .capture => 3
  | .cancel => 1

/-- The channel an order's channel field names. -/
def orderChan (o : Order) : Option Chan :=
  if h : o.channel.toNat < 8 then some ⟨o.channel.toNat, h⟩ else none

/-- The checks of R158 that come before the kind's own rule. -/
def orderCheck (k : OrderKind) (o : Order) : Option Result :=
  if 48 < o.length.toNat then some .badLength
  else if !o.bodyOk then some .bodyError
  else if o.length.toNat < k.need o then some .badLength
  else if k.perChannel && (orderChan o).isNone then some .badField
  else none

/-- A field lowered to a bound, and whether that changed it. -/
def lower (x bound : Nat) : Nat × Bool := (min x bound, decide (bound < x))

/-- A field held within lo..hi, and whether that changed it. -/
def within (x lo hi : Nat) : Nat × Bool := (min (max x lo) hi, decide (x < lo) || decide (hi < x))

/-! ### History, trip records and captures (R75, R137) -/

/-- A flag as a value. -/
def flag (b : Bool) (v : Nat) : Nat := if b then v else 0

/-- The four words of a history place (R137); the bits that R137 gives no field are 0 (log 46). -/
def HistEntry.words (h : HistEntry) : List Word :=
  [pack h.periodLow.toNat h.thetaS, pack h.id h.iq, pack h.iqRef h.vd,
   pack h.vq (h.skew % 256 + flag h.limI 256 + flag h.limV 512 : Nat)]

/-- The 139 words of a trip record, with the later-cause mask read when the write begins (R115, R137); the bits that
R137 gives no field are 0 (log 46). -/
def TripRecord.words (t : TripRecord) (later : BitVec 12) : List Word :=
  let hist := t.hist.take 32
  [t.seq,
   BitVec.ofNat 32 (t.chan.val + 2 ^ 8 * t.cause.code + 2 ^ 16 * (t.detail % 256)
     + 2 ^ 24 * t.action.code + 2 ^ 28 * t.stateLeft.code),
   BitVec.ofNat 32 (later.toNat / 2 * 2 + 2 ^ 16 * t.rampCause.code + 2 ^ 24 * hist.length),
   t.s, t.periodCount, BitVec.ofInt 32 t.iD, BitVec.ofInt 32 t.iQ, pack t.idRef t.iqRef,
   pack t.vd t.vq, pack t.udc 0]
  ++ hist.flatMap HistEntry.words ++ List.replicate (4 * (32 - hist.length)) 0 ++ [t.seq]

/-- A signed item of a capture entry. -/
def signedWord (x : Int) : Word := BitVec.ofInt 32 x

/-- The words of a capture entry: the head and the chosen items in the fixed order (R75, R137); the bits of the flags
word that R137 gives no field are 0 (log 46). -/
def captureWords (h : HistEntry) (number : Nat) (mask : BitVec 7) : List Word :=
  let item := fun (i : Nat) (w : Word) => if mask.getLsbD i then [w] else []
  [pack h.periodLow.toNat number]
  ++ item 0 (BitVec.ofNat 32 h.thetaS) ++ item 1 (signedWord h.id) ++ item 2 (signedWord h.iq)
  ++ item 3 (signedWord h.iqRef) ++ item 4 (signedWord h.vd) ++ item 5 (signedWord h.vq)
  ++ item 6 (BitVec.ofNat 32 (h.skew % 256 + flag h.limI 256 + flag h.limV 512))

/-- The entry size in words: one plus one per chosen item (R74). -/
def entrySize (mask : BitVec 7) : Nat :=
  1 + ((List.range 7).filter fun i => mask.getLsbD i).length

end Sys2Proof.Machine
end

