-- ==== Sys2Proof/Machine/Port.lean ====
section
/-! DEFINITION. Shared operations of the memory port: requests, the start of a sequence with its addresses and
words, its end and the handling of the bus, the bus outputs (R177 to R185). -/

namespace Sys2Proof.Machine

/-- The requester whose sequence it is (R179). -/
def SeqKind.requester : SeqKind → Requester
  | .directory | .sheet => .sheetFetch
  | .report _ => .reportWrite
  | .dump => .tripDump
  | .pointer | .header | .claim | .body | .answer _ | .done _ => .orderWalk
  | .capture _ => .capture

/-- Locked sequences (R179). -/
def SeqKind.locked : SeqKind → Bool
  | .directory | .sheet | .report _ => true
  | .dump | .pointer | .header | .claim | .body | .answer _ | .done _ | .capture _ => false

/-- Sequences that read (R179). -/
def SeqKind.reads : SeqKind → Bool
  | .directory | .sheet | .pointer | .header | .body => true
  | .report _ | .dump | .claim | .answer _ | .done _ | .capture _ => false

/-- Whether a requester has a sequence pending at MPT. -/
def Mpt.pends (m : Mpt) : Requester → Bool
  | .sheetFetch => m.pFetch.isSome
  | .reportWrite => m.pReport.isSome
  | .tripDump => m.pDump
  | .orderWalk => m.pWalk.isSome
  | .capture => m.pCapture.isSome

/-- Whether any requester has a sequence pending. -/
def Mpt.anyPending (m : Mpt) : Bool :=
  m.pFetch.isSome || m.pReport.isSome || m.pDump || m.pWalk.isSome || m.pCapture.isSome

/-- Whether a requester's sequence runs, or has ended with its end still to be taken. -/
def Mpt.runs (m : Mpt) (q : Requester) : Bool :=
  (match m.seq with
    | some x => x.kind.requester == q
    | none => false) || m.ended.any fun e => e.kind.requester == q

/-- A requester may hand MPT its next sequence (R179). -/
def Mpt.isFree (m : Mpt) (q : Requester) : Bool := !m.pends q && !m.runs q

/-- Consecutive word addresses from a first one. DESIGN CHOICE, unsafe: of an order body or a capture entry that runs past
the top of the address space they go on from 0 (log 55). -/
def wordRun (a : Word) (n : Nat) : List Word := (List.range n).map fun i => a + BitVec.ofNat 32 (4 * i)

/-- A sequence at its start. -/
def newSeq (kind : SeqKind) (addrs wdata : List Word) : Seq :=
  { kind := kind, addrs := addrs, wdata := wdata, next := 0, carried := [], parity := false, restarts := 0,
    suspended := false, dataClock := 0, addrNext := false }

/-- The word at which a walk reads its next pointer: header word 1 of the block at the position, or the anchor
word under the base in force (R152, R154). -/
def State.pointerAddr (s : State) : Word :=
  match s.exc.position with
  | none => s.crw.base + 0x0C
  | some a => a + 4

/-- Order slot i. -/
def State.slot (s : State) (i : Nat) : Slot := s.exc.slots.getD i .free

/-- Order slot i replaced. -/
def State.setSlot (s : State) (i : Nat) (x : Slot) : State :=
  { s with exc := { s.exc with slots := s.exc.slots.set i x } }

/-- A capture context. -/
def State.cap (s : State) (ctx : Bool) : CapCtx := if ctx then s.lpe.cap1 else s.lpe.cap0

/-- A capture context replaced. -/
def State.setCap (s : State) (ctx : Bool) (x : CapCtx) : State :=
  { s with lpe := if ctx then { s.lpe with cap1 := x } else { s.lpe with cap0 := x } }

/-- MPT runs this sequence. -/
def State.runSeq (s : State) (x : Seq) : State := { s with mpt := { s.mpt with seq := some x } }

/-- The completion that an order's answer write carries when it begins: of an order completed at its take, or ended
between the take and the start of that write (R158). -/
def State.answerDone (s : State) (k : Claimed) : Option (Result × Word) :=
  match k.answer with
  | some (.done r stamp) => some (r, stamp)
  | some .active | none =>
    match k.slot.map s.slot with
    | some (.held o) => o.early
    | some .free | some .reserved | some .writing | none => none

/-- The slot of an order in flight as its answer write begins (R158, R160): an order that has ended leaves it to that
write, any other is ACTIVE from now. -/
def State.markAnswer (s : State) (k : Claimed) : State :=
  match k.answer, k.slot with
  | some (.done _ _), _ | _, none => s
  | some .active, some i | none, some i =>
    match s.slot i with
    | .held o => s.setSlot i (if o.early.isSome then .writing else .held { o with begun := true })
    | .free | .reserved | .writing => s

/-- The answer write begins: the completed form for an order that is complete, also when it completed after
its take; else the ACTIVE write (R158). -/
def State.beginAnswer (s : State) (k : Claimed) : State :=
  match s.answerDone k with
  | some (r, stamp) =>
    let (as, ws) := doneForm k.addr k.w0 k.w2 r stamp
    (s.markAnswer k).runSeq (newSeq (.answer (blockNotify k.w0)) as ws)
  | none => (s.markAnswer k).runSeq (newSeq (.answer false) [k.addr] [blockWord0 k.w0 3])

/-- The walk's next step begins as a sequence (R154 to R158); a body that runs past the top of the address space goes on
from address 0 (log 55). -/
def State.beginStep (s : State) (w : Walk) : State :=
  match w.stage with
  | .pointer => s.runSeq (newSeq .pointer [s.pointerAddr] [])
  | .header a => s.runSeq (newSeq .header (wordRun a 4) [])
  | .claim =>
    match w.claimed with
    | some k => s.runSeq (newSeq .claim [k.addr] [blockWord0 k.w0 2])
    | none => s
  | .body =>
    match w.claimed with
    | some k => s.runSeq (newSeq .body (wordRun (k.addr + 16) (blockLength k.w2)) [])
    | none => s
  | .answer =>
    match w.claimed with
    | some k => s.beginAnswer k
    | none => s
  | .take => s

/-- The oldest DONE write begins (R161). -/
def State.beginWriteBack (s : State) : State :=
  match s.exc.writeBack with
  | [] => s
  | d :: _ =>
    let (as, ws) := doneForm d.addr d.w0 d.w2 d.result d.stamp
    s.runSeq (newSeq (.done (blockNotify d.w0)) as ws)

/-- The oldest waiting trip record begins to be written, with the later-cause mask read now (R115). -/
def State.beginDump (s : State) : State :=
  match s.tru.dumps with
  | [] => s
  | t :: rest =>
    let a := s.crw.base + 0x1400 + BitVec.ofNat 32 (t.chan.val * 0x400)
    ({ s with tru := { s.tru with dumps := rest } } : State).runSeq
      (newSeq .dump (wordRun a 139) (t.words (s.chan t.chan).tru.later))

/-- The head entry of a capture FIFO begins to be written at its place (R76). DESIGN CHOICE, unsafe: of a place whose
address would be 2^32 or more the model takes the address modulo 2^32 (log 55). -/
def State.beginCapture (s : State) (ctx : Bool) : State :=
  let k := s.cap ctx
  match k.fifo with
  | [] => s
  | e :: _ =>
    let size := entrySize k.mask
    s.runSeq (newSeq (.capture ctx)
      (wordRun (k.addr + BitVec.ofNat 32 (e.number * size * 4)) size) e.words)

/-- At a selection edge the pending sequence of the highest-priority requester begins; region addresses are
formed from REGION_BASE as it stands now (R124, R179). -/
def State.beginNext (s : State) : State :=
  let m := s.mpt
  match m.pFetch with
  | some none =>
    ({ s with mpt := { m with pFetch := none } } : State).runSeq
      (newSeq .directory (wordRun s.crw.base 4) [])
  | some (some slot) =>
    ({ s with mpt := { m with pFetch := none } } : State).runSeq
      (newSeq .sheet (wordRun (s.crw.base + BitVec.ofNat 32 (0x400 + slot * 0x200)) 4) [])
  | none =>
    match m.pReport with
    | some r =>
      ({ s with mpt := { m with pReport := none } } : State).runSeq
        (newSeq (.report r.final)
          (wordRun (s.crw.base + BitVec.ofNat 32 (0xC00 + r.slot * 0x200)) r.words.length) r.words)
    | none =>
      if m.pDump then ({ s with mpt := { m with pDump := false } } : State).beginDump
      else
        match m.pWalk with
        | some .writeBack => ({ s with mpt := { m with pWalk := none } } : State).beginWriteBack
        | some .step =>
          match s.exc.walk with
          | some w => ({ s with mpt := { m with pWalk := none } } : State).beginStep w
          | none => { s with mpt := { m with pWalk := none } }
        | none =>
          match m.pCapture with
          | some ctx => ({ s with mpt := { m with pCapture := none } } : State).beginCapture ctx
          | none => s

/-- Word i is the last of its transfer: every single word, and the fourth word of a burst (R180). -/
def Seq.endsTransfer (x : Seq) (i : Nat) : Bool :=
  let n := x.addrs.length
  (match x.kind with
    | .answer _ | .done _ => true
    | .directory | .sheet | .report _ | .dump | .pointer | .header | .claim | .body | .capture _ => false)
    || decide (4 * (n / 4) ≤ i) || i % 4 == 3

/-- The bus at the port clock edge after a sequence's end, by the table of R177, with the clock of request off:
PARK_EN, the grant, and whether another sequence is pending. -/
def busAfter (park grant pending : Bool) : BusState × Bool :=
  if park then
    if grant then (if pending then .owning else .parked, false)
    else (if pending then .requesting else .released, false)
  else (.released, pending)

/-- The running sequence ends: its outcome is handed over, the port failure count follows it and PORT is raised at a
failure that leaves the count at 3 (R184). MPT acts on the end at its next port clock edge (R179). -/
def State.endSeq (s : State) (out : PortOutcome) : State :=
  match s.mpt.seq with
  | none => s
  | some x =>
    let fails := if out = .ok then 0 else min 3 (s.mpt.fails + 1)
    ({ s with mpt := { s.mpt with
        seq := none, ended := s.mpt.ended ++ [⟨x.kind, out, x.carried⟩], fails := fails } } :
      State).raiseIf (out != .ok && fails == 3) .port

/-- An end is taken: the first ended sequence of this kind leaves the hand-over list. -/
def State.takeEnd (s : State) (kind : SeqKind) : State :=
  { s with mpt := { s.mpt with ended := s.mpt.ended.eraseP fun e => e.kind == kind } }

/-! ### Bus outputs (R177, R180, R183) -/

/-- One even-parity bit per byte lane (R183). -/
def laneParity (w : Word) : BitVec 4 :=
  let lane := fun (i : Nat) =>
    (List.range 8).foldl (fun p k => p ^^ w.getLsbD (8 * i + k)) false
  BitVec.ofNat 4 (flag (lane 0) 1 + flag (lane 1) 2 + flag (lane 2) 4 + flag (lane 3) 8)

/-- The request output: asserted in REQUESTING, off in the other states; R177 names OWNING in no place, where busy is
asserted and MPT asks for nothing (log 42). -/
def State.busRequest (s : State) : Bool := !s.crw.held && s.mpt.bus == .requesting

/-- The busy output. -/
def State.busBusy (s : State) : Bool := !s.crw.held && (s.mpt.bus == .owning || s.mpt.bus == .parked)

/-- The lock output: over all transfers of a locked sequence that has the bus. -/
def State.busLock (s : State) : Bool :=
  !s.crw.held && s.mpt.bus == .owning && match s.mpt.seq with
    | some x => x.kind.locked && !x.suspended
    | none => false

/-- The word of the running sequence on the bus (R180, R183): its address, from data clock 1 on the data and parity
bits if it is written, and the last-word output. R180 gives an address for the address clock of a transfer; in the
data clocks of a burst each word shows its own address (log 48). -/
def State.busWord (s : State) : Option (Word × Option (Word × BitVec 4) × Bool) :=
  if s.crw.held || s.mpt.bus != .owning then none
  else match s.mpt.seq with
    | none => none
    | some x =>
      if x.suspended || x.addrNext then none
      else match x.addrs[x.next]? with
        | none => none
        | some a =>
          some (a, (if x.kind.reads || x.dataClock == 0 then none
            else x.wdata[x.next]?.map fun d => (d, laneParity d)),
            x.endsTransfer x.next && x.dataClock != 0)

end Sys2Proof.Machine
end

