-- ==== Sys2Proof/Machine/Exchange.lean ====
section
/-! DEFINITION. Shared operations of the exchange: order completions, capture ends, the requests each block hands
to the port when its requester is free, readiness to close, the judgement of sheets, the interpolation and the
report (R76 to R78, R115, R130, R138 to R149, R153, R160, R161). -/

namespace Sys2Proof.Machine

/-! ### Order completions (R158, R160, R161) -/

/-- An order in flight completes with a result, S as its stamp. Before its ACTIVE write has begun the answer
write will carry it; after that its DONE write joins the write-back list. An order without a slot was
taken from no block and is written nowhere. -/
def State.complete (s : State) (slot : Option Nat) (r : Result) : State :=
  match slot with
  | none => s
  | some i =>
    match s.slot i with
    | .held o =>
      if o.begun then
        let t := s.setSlot i .writing
        { t with exc := { t.exc with
            writeBack := t.exc.writeBack ++ [⟨o.addr, o.w0, o.w2, r, s.mod.s, i⟩] } }
      else s.setSlot i (.held { o with early := some (r, s.mod.s) })
    | .free | .reserved | .writing => s

/-- A staged order completes with the result fixed at its take (R98, R99). -/
def State.completeFixed (s : State) (i : Nat) : State :=
  match s.slot i with
  | .held o => s.complete (some i) o.fixed
  | .free | .reserved | .writing => s

/-- The orders that wait on a staged record complete (R99). -/
def State.completeAll (s : State) (slots : List Nat) : State := slots.foldl State.completeFixed s

/-- The order slot that a claim reserves (R160). DESIGN CHOICE: of several available slots the one of the lowest index,
which no output shows (log 51). -/
def State.freeSlot (s : State) : Option Nat := s.exc.slots.findIdx? (· == .free)

/-! ### Captures (R77, R78) -/

/-- A capture ends with a result: its order completes and the context is FREE (R77, R78). -/
def State.finishCapture (s : State) (ctx : Bool) (r : Result) : State :=
  (s.complete (s.cap ctx).slot r).setCap ctx CapCtx.free

/-- A capture ends early (R78): the FIFO is emptied and taps stop; a write still pending at the port is
withdrawn, one that has begun is waited for. -/
def State.endCapture (s : State) (ctx : Bool) (r : Result) : State :=
  let k := s.cap ctx
  match k.state with
  | .active | .draining =>
    if k.inFlight && s.mpt.pCapture != some ctx then
      s.setCap ctx { k with fifo := [], state := .ending, result := r }
    else
      let t : State :=
        if s.mpt.pCapture = some ctx then { s with mpt := { s.mpt with pCapture := none } } else s
      t.finishCapture ctx r
  | .free | .ending => s

/-- Every capture of channel c ends early with a result (R78), context 0 before 1 (log 27). -/
def State.endCapturesOf (s : State) (c : Chan) (r : Result) : State :=
  let one := fun (t : State) (ctx : Bool) => if (t.cap ctx).chan = c then t.endCapture ctx r else t
  one (one s false) true

/-- Every capture with this tag ends early with ABORTED (R78, R174), context 0 before 1 (log 27). -/
def State.cancelCaptures (s : State) (tag : Half) : State :=
  let one := fun (t : State) (ctx : Bool) =>
    if (t.cap ctx).tag = tag then t.endCapture ctx .aborted else t
  one (one s false) true

/-- A context that can be ended early carries this tag. -/
def State.hasCapture (s : State) (tag : Half) : Bool :=
  let is := fun (k : CapCtx) => k.tag == tag && (k.state == .active || k.state == .draining)
  is s.lpe.cap0 || is s.lpe.cap1

/-! ### Requests to the port -/

/-- SHEET_FETCH: the directory read, or the fetch in hand that MPT does not hold yet (R126, R138). -/
def State.pumpFetch (s : State) : State :=
  if !s.mpt.isFree .sheetFetch then s
  else if s.exc.dirWanted then
    { s with exc := { s.exc with dirWanted := false },
             mpt := { s.mpt with pFetch := some none } }
  else match s.exc.fetch with
    | some f =>
      if f.handed then s
      else { s with exc := { s.exc with fetch := some { f with handed := true } },
                    mpt := { s.mpt with pFetch := some (some f.slot) } }
    | none => s

/-- REPORT_WRITE: the snapshot that waits in EXC (R149). -/
def State.pumpReport (s : State) : State :=
  match s.exc.reportWaiting with
  | some r =>
    if s.mpt.isFree .reportWrite then
      { s with exc := { s.exc with reportWaiting := none },
               mpt := { s.mpt with pReport := some r } }
    else s
  | none => s

/-- The exchange states in which trip records are written (R115, R128). -/
def XState.dumps : XState → Bool
  | .running | .quiescing | .quiesced => true
  | .stopped | .starting => false

/-- TRIP_DUMP: the oldest waiting request (R115). -/
def State.pumpDump (s : State) : State :=
  if s.exc.state.dumps && !s.tru.dumps.isEmpty && s.mpt.isFree .tripDump then
    { s with mpt := { s.mpt with pDump := true } }
  else s

/-- The walk has a step that is a sequence (R153). -/
def WalkStage.sequenced : WalkStage → Bool
  | .pointer | .header _ | .claim | .body | .answer => true
  | .take => false

/-- ORDER_WALK: the oldest DONE write before any further step of a walk (R161). -/
def State.pumpWalk (s : State) : State :=
  if !s.mpt.isFree .orderWalk then s
  else if !s.exc.writeBack.isEmpty then
    { s with mpt := { s.mpt with pWalk := some .writeBack } }
  else match s.exc.walk with
    | some w =>
      if w.stage.sequenced then { s with mpt := { s.mpt with pWalk := some .step } } else s
    | none => s

/-- The context whose head entry was tapped first; context 0 where both were tapped at one commit (R76). -/
def State.oldestCapture (s : State) : Option Bool :=
  match s.lpe.cap0.fifo, s.lpe.cap1.fifo with
  | [], [] => none
  | _ :: _, [] => some false
  | [], _ :: _ => some true
  | a :: _, b :: _ => some (decide (b.tap < a.tap))

/-- CAPTURE: the oldest head entry of the two FIFOs becomes its context's write in flight (R76). -/
def State.pumpCapture (s : State) : State :=
  if !s.mpt.isFree .capture then s
  else match s.oldestCapture with
    | some ctx =>
      let t := s.setCap ctx { s.cap ctx with inFlight := true }
      { t with mpt := { t.mpt with pCapture := some ctx } }
    | none => s

/-! ### Readiness to close (R101, R130) -/

/-- A channel is at rest when it is not CALIBRATING, CHARGING, RUNNING or RAMPDOWN (R101). -/
def ChanState.atRest : ChanState → Bool
  | .disabled | .armed | .tripped => true
  | .calibrating | .charging | .running | .rampdown => false

/-- The four things that hold together when the exchange is ready to close (R130). -/
def State.closable (s : State) : Bool :=
  Chan.all.all (fun c => (s.cstate c).atRest) && s.exc.walk.isNone
    && s.exc.slots.all (· == .free) && s.exc.writeBack.isEmpty
    && s.lpe.cap0.state == .free && s.lpe.cap1.state == .free

/-- While QUIESCING the exchange becomes ready to close at the first event at which it can (R130). -/
def State.markReady (s : State) : State :=
  if s.exc.state = .quiescing && s.closable then { s with exc := { s.exc with ready := true } } else s

/-- What follows every event: each block hands the port its next sequence where its requester is free, and the
exchange may become ready to close. -/
def State.follow (s : State) : State :=
  s.pumpFetch.pumpReport.pumpDump.pumpWalk.pumpCapture.markReady

/-! ### Sheets (R140 to R142) -/

/-- The fetch in hand is given up: not yet begun it is withdrawn, begun its data will be discarded (R139). -/
def State.dropFetch (s : State) : State :=
  match s.exc.fetch with
  | none => s
  | some f =>
    let begun := f.handed && s.mpt.pFetch.isNone
    { s with exc := { s.exc with fetch := none, fetchDiscard := s.exc.fetchDiscard || begun },
             mpt := if f.handed then { s.mpt with pFetch := none } else s.mpt }

/-- A change of the sheet counters. -/
def State.countSheet (s : State) (f : SheetCounters → SheetCounters) : State :=
  { s with exc := { s.exc with counters := f s.exc.counters } }

/-- The judgement of a fetched sheet: the counter of the cause that makes it missing, or the sheet (R140). -/
def State.judgeSheet (s : State) (out : PortOutcome) (ws : List Word) :
    (SheetCounters → SheetCounters) ⊕ Sheet :=
  match out with
  | .timeout | .busError | .backoffLimit => .inl fun k => { k with port := satAdd 65535 k.port 1 }
  | .parity => .inl fun k => { k with parity := satAdd 65535 k.parity 1 }
  | .ok =>
    match readSheet ws with
    | none => .inl fun k => { k with form := satAdd 65535 k.form 1 }
    | some sheet =>
      if headStamp ws != tailStamp ws then .inl fun k => { k with torn := satAdd 65535 k.torn 1 }
      else if s.exc.accepted && !newer (headStamp ws) s.exc.lastStamp then
        .inl fun k => { k with stale := satAdd 65535 k.stale 1 }
      else .inr sheet

/-- A sheet is accepted: stamps passed over are counted as skipped unless it is the first, its stamp and host
mark are taken, and it waits for its boundary (R141). -/
def State.acceptSheet (s : State) (ws : List Word) (sheet : Sheet) : State :=
  let skip := if s.exc.accepted then (headStamp ws - s.exc.lastStamp - 1).toNat else 0
  { s with exc := { s.exc with
      counters := { s.exc.counters with skipped := satAdd 65535 s.exc.counters.skipped skip },
      lastStamp := headStamp ws, accepted := true, sinceGo := true,
      mark0 := ws.getD 2 0, mark1 := ws.getD 3 0, sheet := some sheet } }

/-- The new entry a boundary brings a channel: the waiting sheet's, if the channel is in service (R142); none once the
final report has been taken (R149). -/
def State.newEntry (s : State) (c : Chan) : Option Entry :=
  match s.exc.sheet with
  | some sheet =>
    if s.exc.dir.mask.getLsbD c.val && !s.exc.finalTaken then sheet.entries.find? (fun e => e.chan == c) else none
  | none => none

/-! ### Interpolation (R145) -/

/-- The interpolated demand for period index k (R145). -/
def Interp.demand (i : Interp) (m : InterpMode) (k : Nat) : Int :=
  match m with
  | .step => i.target
  | .ramp =>
    i.prev + ((i.target - i.prev) * ((min k (i.ni - 1) + 1 : Nat) : Int) + (i.ni / 2 : Nat)) / (i.ni : Int)

/-- The application of a demand: the value reached becomes the previous value, and the target is the
entry's demand or the value reached (R145). -/
def Interp.apply (i : Interp) (m : InterpMode) (k n : Nat) (target : Option Int) : Interp :=
  { prev := i.demand m k, target := target.getD (i.demand m k), ni := n }

/-- The interpolated q demand of a channel for its period index in force (R147). -/
def Channel.qDemand (ch : Channel) : Int := ch.exc.q.demand ch.chc.mode.interp ch.mod.index

/-- The interpolated d demand of a channel for its period index in force (R147). -/
def Channel.dDemand (ch : Channel) : Int := ch.exc.d.demand ch.chc.mode.interp ch.mod.index

/-! ### Tandem pairs (R95) -/

/-- The pair a channel belongs to. -/
def State.pairOf (s : State) (c : Chan) : Option Pair :=
  s.chc.pairs.find? fun p => p.leader == c || p.follower == c

/-- The other member of a channel's pair. -/
def State.partner (s : State) (c : Chan) : Option Chan :=
  (s.pairOf c).map fun p => if p.leader = c then p.follower else p.leader

/-- The channel is the follower of a pair. -/
def State.isFollower (s : State) (c : Chan) : Bool :=
  match s.pairOf c with
  | some p => p.follower == c
  | none => false

/-- The channel that holds the lifecycle order in flight: the leader of a pair, else the channel (R81). -/
def State.leaderOf (s : State) (c : Chan) : Chan :=
  match s.pairOf c with
  | some p => p.leader
  | none => c

/-- The channels an event of channel c moves together: both members of its pair, else c (R96). -/
def State.members (s : State) (c : Chan) : List Chan :=
  match s.pairOf c with
  | some p => if p.leader < p.follower then [p.leader, p.follower] else [p.follower, p.leader]
  | none => [c]

/-- The lifecycle order in flight of a channel, held once for a pair (R81). -/
def State.lifeOf (s : State) (c : Chan) : Option Life := (s.chan (s.leaderOf c)).chc.life

/-! ### Reports (R135, R148) -/

/-- The six words of a channel's block of a report. -/
def State.reportBlock (s : State) (c : Chan) : List Word :=
  let ch := s.chan c
  let st := ch.lpe.stats
  let vals : Int × Int × Int :=
    if st.commits = 0 then (ch.lpe.vd, ch.lpe.vq, ch.lpe.iqRef) else (st.vd, st.vq, st.iqRef)
  let causeCode := match ch.tru.cause with
    | some k => k.code
    | none => 0
  let tag : Half := match s.lifeOf c with
    | some l => l.tag
    | none => 0
  [BitVec.ofNat 32 (ch.chc.state.code + 2 ^ 4 * ch.chc.rampCause.code + 2 ^ 8 * causeCode
      + flag st.limI (2 ^ 12) + flag st.limV (2 ^ 13) + flag st.late (2 ^ 14)
      + flag (decide (0 < st.noJob) || st.commits == 0) (2 ^ 16) + 2 ^ 24 * ch.exc.miss),
   pack (ch.tru.later.toNat / 2 * 2 : Nat) tag.toNat,
   pack (average st.idSum st.commits) (average st.iqSum st.commits),
   pack vals.1 vals.2.1, pack vals.2.2 0, pack ch.lpe.lateTotal 0]

/-- The cycle average of udc; with no sample in the cycle, the udc held (R30). -/
def Link.cycleAverage (k : Link) : Nat :=
  if k.cycCount = 0 then k.udc else (k.cycSum + k.cycCount / 2) / k.cycCount

/-- The 60 words of the report of the cycle that ends at this boundary; S has been counted (R135, R148). -/
def State.reportWords (s : State) (final : Bool) : List Word :=
  let stamp := s.mod.s - 1
  let k := s.exc.counters
  let position := match s.exc.position with
    | some a => a
    | none => s.crw.base + 8
  [stamp, s.exc.lastStamp, position, s.exc.mark0, s.exc.mark1,
   pack (s.exc.state.code + flag final (2 ^ 4) + flag s.dls.chopper (2 ^ 5) + flag s.dls.hot (2 ^ 6)
      + flag s.exc.halted (2 ^ 7) : Nat) s.link.cycleAverage,
   pack k.torn k.stale, pack k.parity k.form, pack k.port k.lateFetch, pack k.skipped k.jumps,
   pack s.exc.reportFails 0]
  ++ Chan.all.flatMap s.reportBlock ++ [stamp]

/-- A snapshot still waiting at this boundary is replaced, which counts as one report-write failure (R149). -/
def State.replaceWaiting (s : State) : State :=
  if s.exc.reportWaiting.isSome && !s.mpt.isFree .reportWrite then
    { s with exc := { s.exc with reportWaiting := none, reportFails := satAdd 65535 s.exc.reportFails 1 } }
  else s

/-- The report snapshot is taken, and requested or left to wait behind a report still in the port
(R148, R149). -/
def State.snapshot (s : State) (final : Bool) : State :=
  let t := s.replaceWaiting
  let r : Report := ⟨t.reportWords final, (t.mod.s - 1).toNat % 4, final⟩
  ({ t with exc := { t.exc with reportWaiting := some r,
                                finalTaken := t.exc.finalTaken || final } } : State).pumpReport

end Sys2Proof.Machine
end

