-- ==== Sys2Proof/Machine/Loop.lean ====
section
/-! DEFINITION. The current loop computation: stages 1 to 12 of a job as exact integer functions of the
inputs read at its start (03_the_current_loop_computation.md). -/

namespace Sys2Proof.Machine

/-! ### Stages 1 to 4 -/

/-- One phase current (R39). -/
def phaseCurrent (raw off gI : Nat) : Int :=
  sat16 (sra (((raw : Int) - (off : Int)) * (gI : Int) + 128) 8)

/-- ia (R39). -/
def JobIn.ia (j : JobIn) : Int := phaseCurrent j.rawA j.offA j.gI

/-- ib (R39). -/
def JobIn.ib (j : JobIn) : Int := phaseCurrent j.rawB j.offB j.gI

/-- ic, from the saturated ia and ib (R39). -/
def JobIn.ic (j : JobIn) : Int := sat16 (-j.ia - j.ib)

/-- The software overcurrent comparison: some phase magnitude exceeds Itrip (R40). -/
def JobIn.overItrip (j : JobIn) : Bool :=
  decide ((j.limits.itrip : Int) < j.ia.natAbs) || decide ((j.limits.itrip : Int) < j.ib.natAbs)
    || decide ((j.limits.itrip : Int) < j.ic.natAbs)

/-- iβ; iα is ia (R41). -/
def JobIn.iBeta (j : JobIn) : Int := sat16 (sra ((j.ia + 2 * j.ib) * 18919 + 16384) 15)

/-- The sampling angle θs (R42). -/
def JobIn.thetaS (j : JobIn) : Nat := hiAngle (j.angle + BitVec.ofInt 32 (sra j.w.toInt 1))

/-- The output angle θo (R42). -/
def JobIn.thetaO (j : JobIn) : Nat :=
  hiAngle (j.angle + BitVec.ofInt 32 (sra (j.w.toInt * (j.gains.adv : Int)) 4))

/-- id (R44). -/
def JobIn.id (j : JobIn) : Int :=
  sat16 (sra (j.ia * cosine j.thetaS + j.iBeta * sine j.thetaS + 16384) 15)

/-- iq (R44). -/
def JobIn.iq (j : JobIn) : Int :=
  sat16 (sra (j.iBeta * cosine j.thetaS - j.ia * sine j.thetaS + 16384) 15)

/-! ### Stage 5: references -/

/-- The field table lookup at key x (R48): 0 for an empty table, the first or last current outside the
breakpoints, and the rounded interpolation between two of them. -/
def fieldLookup : FieldTable → Nat → Int
  | [], _ => 0
  | [(_, i)], _ => i
  | (s0, i0) :: (s1, i1) :: rest, x =>
    if x ≤ s0 then i0
    else if x < s1 then
      i0 + ((i1 - i0) * ((x : Int) - (s0 : Int)) + ((s1 - s0) / 2 : Nat)) / ((s1 : Int) - (s0 : Int))
    else fieldLookup ((s1, i1) :: rest) x

/-- The key of the lookup: the floored whole speed, its magnitude bounded (R48). -/
def fieldKey (w : Word) : Nat := min (sra w.toInt 16).natAbs 32767

/-- The d demand (R47). -/
def JobIn.idDem (j : JobIn) : Int :=
  match j.dSource with
  | .zero => 0
  | .sheet => j.idSheet
  | .table => fieldLookup j.table (fieldKey j.w)

/-- The step of the ramp (R50, R88). -/
def JobIn.rampStep (j : JobIn) : Nat :=
  if j.rampCause = .fastStop then j.limits.fastStep else j.limits.rampStep

/-- A value moved toward 0 by a step (R50). -/
def rampToward (x : Int) (step : Nat) : Int :=
  if x.natAbs ≤ step then 0 else if 0 < x then x - step else x + step

/-- The q demand: the ramp in RAMPDOWN (R50), the leader's share for a follower (R46), else the sheet's
demand (R45). -/
def JobIn.iqDem (j : JobIn) : Int :=
  if j.state = .rampdown then rampToward j.lastIqRef j.rampStep
  else match j.lead with
    | some ld => sat16 (sra (ld.iqLead * (ld.share : Int) + 16384) 15 + j.offset)
    | none => j.iqSheet

/-- Imax_eff (R49); an absent limit scale counts as 32768. -/
def JobIn.imaxEff (j : JobIn) : Nat := j.limits.imax * j.ls.getD 32768 / 32768

/-- id_ref (R49). -/
def JobIn.idRef (j : JobIn) : Int := clampSym j.idDem (min j.limits.idmax j.imaxEff : Nat)

/-- iq_lim (R49). -/
def JobIn.iqLim (j : JobIn) : Nat := isqrt (j.imaxEff ^ 2 - j.idRef.natAbs ^ 2)

/-- iq_ref (R49). -/
def JobIn.iqRef (j : JobIn) : Int := clampSym j.iqDem j.iqLim

/-- LIM_I (R49). -/
def JobIn.limI (j : JobIn) : Bool := j.idRef != j.idDem || j.iqRef != j.iqDem

/-! ### Stage 6: PI regulators -/

/-- e_d (R51). -/
def JobIn.eD (j : JobIn) : Int := j.idRef - j.id

/-- e_q (R51). -/
def JobIn.eQ (j : JobIn) : Int := j.iqRef - j.iq

/-- A proportional term (R51). -/
def proportional (e : Int) (kp : Nat) : Int := sra (e * (kp : Int) + 512) 10

/-- The bound of the integrators, 32767 × 65536 (R52). -/
def integratorMax : Int := 2147418112

/-- A candidate integrator (R52). -/
def candidate (i e : Int) (ki : Nat) : Int := clampSym (i + e * (ki : Int)) integratorMax

/-- wi, the whole speed (R53). -/
def JobIn.wi (j : JobIn) : Int := sra j.w.toInt 16

/-- vd_dec (R53). -/
def JobIn.vdDec (j : JobIn) : Int :=
  if j.gains.decoupling then
    -(sra (j.wi * sra ((j.gains.lq : Int) * j.iq + 16384) 15 + 2048) 12)
  else 0

/-- vq_dec (R53). -/
def JobIn.vqDec (j : JobIn) : Int :=
  if j.gains.decoupling then
    sra (j.wi * (sra ((j.gains.ld : Int) * j.id + 16384) 15 + (j.gains.psi : Int)) + 2048) 12
  else 0

/-- I_d' (R52). -/
def JobIn.iD' (j : JobIn) : Int := candidate j.iD j.eD j.gains.kiD

/-- I_q' (R52). -/
def JobIn.iQ' (j : JobIn) : Int := candidate j.iQ j.eQ j.gains.kiQ

/-- vd_u (R54). -/
def JobIn.vdU (j : JobIn) : Int :=
  proportional j.eD j.gains.kpD + sra j.iD' 16 + j.vdDec + j.vdFf

/-- vq_u (R54). -/
def JobIn.vqU (j : JobIn) : Int :=
  proportional j.eQ j.gains.kpQ + sra j.iQ' 16 + j.vqDec + j.vqFf

/-! ### Stage 7: voltage limit and anti-windup -/

/-- Vmax (R55). -/
def JobIn.vMax (j : JobIn) : Nat := j.limits.mlim * j.udc / 32768

/-- vd (R55). -/
def JobIn.vd (j : JobIn) : Int := clampSym j.vdU j.vMax

/-- vq (R55). -/
def JobIn.vq (j : JobIn) : Int := clampSym j.vqU (isqrt (j.vMax ^ 2 - j.vd.natAbs ^ 2) : Nat)

/-- LIM_V (R55). -/
def JobIn.limV (j : JobIn) : Bool := j.vd != j.vdU || j.vq != j.vqU

/-- Both positive or both negative (R56). -/
def sameSign (x y : Int) : Bool := (decide (0 < x) && decide (0 < y)) || (decide (x < 0) && decide (y < 0))

/-- The integrator offered for commit: the old one when the clamp acted and the error pushes on (R56). -/
def antiWindup (old new v vU e : Int) : Int := if v != vU && sameSign e vU then old else new

/-! ### Stages 8 to 12 -/

/-- vα (R57). -/
def JobIn.vAlpha (j : JobIn) : Int :=
  sat16 (sra (j.vd * cosine j.thetaO - j.vq * sine j.thetaO + 16384) 15)

/-- vβ (R57). -/
def JobIn.vBeta (j : JobIn) : Int :=
  sat16 (sra (j.vd * sine j.thetaO + j.vq * cosine j.thetaO + 16384) 15)

/-- mα (R58). -/
def JobIn.mAlpha (j : JobIn) : Int := sat16 (sra (j.vAlpha * (j.r : Int) + 16384) 15)

/-- mβ (R58). -/
def JobIn.mBeta (j : JobIn) : Int := sat16 (sra (j.vBeta * (j.r : Int) + 16384) 15)

/-- The three phase duties (R59). -/
def phaseDuties (mA mB : Int) : Bank3 Int :=
  let half := sra (mA + 1) 1
  let h := sra (mB * 28378 + 16384) 15
  ⟨mA, sat16 (h - half), sat16 (-h - half)⟩

/-- The centred, rescaled duties (R60). -/
def centredDuties (m : Bank3 Int) : Bank3 Int :=
  let off := -(sra (max m.a (max m.b m.c) + min m.a (min m.b m.c)) 1)
  m.map fun x => sat16 (sra ((x + off) * 18919 + 8192) 14)

/-- A compare value, held at 0 or P when its pulse would be too short (R61). -/
def compareValue (p cmin : Nat) (duty : Int) : Nat :=
  let v := (sra ((p : Int) * (duty + 32768) + 32768) 16).toNat
  if v < cmin then 0 else if p - cmin < v then p else v

/-- The compare set of a job (R61). -/
def JobIn.compares (j : JobIn) : Compare :=
  (centredDuties (phaseDuties j.mAlpha j.mBeta)).map (compareValue j.p j.cmin)

/-! ### What a job offers for commit -/

/-- The result of a full job (R62), and with zeros that of a measuring job (R38). -/
structure JobOut where
  thetaS : Nat
  id : Int
  iq : Int
  idRef : Int
  iqRef : Int
  vd : Int
  vq : Int
  iD : Int
  iQ : Int
  limI : Bool
  limV : Bool
  cmp : Compare
  deriving DecidableEq, Repr

/-- What a full job offers (R62). -/
def fullResult (j : JobIn) : JobOut :=
  { thetaS := j.thetaS, id := j.id, iq := j.iq, idRef := j.idRef, iqRef := j.iqRef,
    vd := j.vd, vq := j.vq,
    iD := antiWindup j.iD j.iD' j.vd j.vdU j.eD, iQ := antiWindup j.iQ j.iQ' j.vq j.vqU j.eQ,
    limI := j.limI, limV := j.limV, cmp := j.compares }

/-- What a measuring job offers: θs, id and iq, with the references and voltages 0 and the flags clear;
integrators and compares stand for "as they were" and are not taken (R38). -/
def measuringResult (j : JobIn) : JobOut :=
  { thetaS := j.thetaS, id := j.id, iq := j.iq, idRef := 0, iqRef := 0, vd := 0, vq := 0,
    iD := j.iD, iQ := j.iQ, limI := false, limV := false, cmp := neutralSet j.p }

end Sys2Proof.Machine
end

