-- ==== Sys2Proof/Machine/Ops.lean ====
section
/-! DEFINITION. Shared operations of the channels and of the protection: moving a channel, ending its lifecycle
order, tripping, fast stops, ramping down, low-level external inputs, the start of jobs and of the timebase
(R1, R35, R36, R66, R69, R80, R88, R93, R96, R100, R103 to R106, R111, R114). -/

namespace Sys2Proof.Machine

/-! ### Moving a channel (R80) -/

/-- An overcurrent filter that counts anew: a count reached in this tick raises no event any more (R108). -/
def OcIn.restart (o : OcIn) : OcIn := { o with count := 0, due := false }

/-- What a change of state does within the channel: calibration accumulators (R31, R33), charge pulses (R15),
the loop state of a run (R63), the angle-valid mark (R144), the filters, which count anew from the tick after an entry
into CALIBRATING (R108, R109), the ramp cause (R80) and the gates (R10, R13). -/
def Channel.move (permit : Bool) (p count : Nat) (st : ChanState) (ch : Channel) : Channel :=
  let old := ch.chc.state
  let smu := if old = .calibrating || st = .calibrating then
      { ch.smu with sumA := 0, sumB := 0, n := 0 } else ch.smu
  let mod := if st = .charging then { ch.mod with pulses := ch.chc.mode.pulses, pulse := none }
    else if old = .charging then { ch.mod with pulses := 0, pulse := none } else ch.mod
  let lpe := if st = .running then
      { ch.lpe with iD := 0, iQ := 0, idRef := 0, iqRef := 0, vd := 0, vq := 0 } else ch.lpe
  let exc := match st with
    | .disabled | .calibrating | .charging | .tripped => { ch.exc with angleValid := false }
    | .armed | .running | .rampdown => ch.exc
  let tru := if st = .calibrating then
      { ch.tru with oc := ch.tru.oc.map OcIn.restart, gfCount := 0, gfDue := false, fresh := true } else ch.tru
  let cause := match st with
    | .running | .disabled => RampCause.none
    | .calibrating | .charging | .armed | .rampdown | .tripped => ch.chc.rampCause
  Channel.resource permit p count ch.source
    { mod := mod, smu := smu, lpe := lpe, chc := { ch.chc with state := st, rampCause := cause },
      tru := tru, exc := exc }

/-- A channel that becomes DISABLED: its waiting trigger is withdrawn, and its running conversion will deliver
nothing (R23). -/
def Converter.disable (c : Chan) (k : Converter) : Converter :=
  { busy := k.busy.map fun (x : Conversion) => if x.chan = c then { x with void := true } else x,
    waiting := k.waiting.filter fun (x : Trigger) => x.chan != c }

/-- The void mark of the job in flight when channel c becomes DISABLED or TRIPPED (R69). -/
def Job.markVoid (c : Chan) (st : ChanState) (j : Job) : Job :=
  if j.set.chan != c || j.inp.state == .tripped then j
  else match st with
    | .disabled => { j with void := .disabled }
    | .tripped => { j with void := if j.void = .no then .tripped else j.void }
    | .calibrating | .charging | .armed | .running | .rampdown => j

/-- Channel c goes to a state, with all that every block does at that event (R80). -/
def State.move (s : State) (c : Chan) (st : ChanState) : State :=
  let t := s.modChan c (Channel.move s.pins.permit s.mod.p (s.count c) st)
  { t with
    conv := if st = .disabled then t.conv.map (Converter.disable c) else t.conv,
    lpe := { t.lpe with
      ready := if st = .disabled then t.lpe.ready.filter (fun (x : SampleSet) => x.chan != c) else t.lpe.ready,
      engine := t.lpe.engine.map (Job.markVoid c st) } }

/-- Several channels go to a state at one event. -/
def State.moveAll (s : State) (cs : List Chan) (st : ChanState) : State :=
  cs.foldl (fun t c => t.move c st) s

/-- The lifecycle order in flight of a channel or pair ends with a result (R81). -/
def State.endLife (s : State) (c : Chan) (r : Result) : State :=
  match s.lifeOf c with
  | none => s
  | some l =>
    (s.complete l.slot r).modChan (s.leaderOf c)
      fun ch => { ch with chc := { ch.chc with life := none } }

/-- A lifecycle order is in flight from now, held as the leader's (R81). -/
def State.beginLife (s : State) (c : Chan) (l : Life) : State :=
  s.modChan (s.leaderOf c) fun ch => { ch with chc := { ch.chc with life := some l } }

/-! ### Trips (section 6.1) -/

/-- A channel in service: CALIBRATING, CHARGING, ARMED, RUNNING or RAMPDOWN (R104). -/
def ChanState.inService : ChanState → Bool
  | .calibrating | .charging | .armed | .running | .rampdown => true
  | .disabled | .tripped => false

/-- The trip action a cause takes on a channel (R104). -/
def tripActionOf (cause : TripCause) (m : Mode) : TripAction :=
  if cause.forced then .pulseBlock else m.tripAction

/-- The record of a trip, as things stand at the trip event (R114). -/
def State.tripRecord (s : State) (c : Chan) (cause : TripCause) (detail : Nat) : TripRecord :=
  let ch := s.chan c
  { chan := c, seq := s.tru.dumpSeq + 1, cause := cause, detail := detail,
    action := tripActionOf cause ch.chc.mode, stateLeft := ch.chc.state, rampCause := ch.chc.rampCause,
    s := s.mod.s, periodCount := ch.mod.periodCount, iD := ch.lpe.iD, iQ := ch.lpe.iQ,
    idRef := ch.lpe.idRef, iqRef := ch.lpe.iqRef, vd := ch.lpe.vd, vq := ch.lpe.vq,
    udc := s.link.udc, hist := ch.lpe.hist }

/-- A channel enters TRIPPED (R93, R104, R114): the record is fixed and filed in place of one still waiting (R116),
the history is frozen (R73), the lifecycle order and the captures end TRIPPED, the channel moves with its trip action,
and the TRIP notice is raised. A dump sequence that MPT holds pending stays pending, and takes the record that is the
oldest when it begins (log 45). The lifecycle order completes before the captures, and capture context 0 before 1 (log
27). -/
def State.enterTrip (s : State) (c : Chan) (cause : TripCause) (detail : Nat) : State :=
  let t := { s with tru := { s.tru with
    dumpSeq := s.tru.dumpSeq + 1,
    dumps := (s.tru.dumps.filter fun (x : TripRecord) => x.chan != c) ++ [s.tripRecord c cause detail] } }
  let u := t.modChan c fun ch =>
    { ch with
      lpe := { ch.lpe with frozen := true },
      tru := { ch.tru with cause := some cause, detail := detail, later := 0,
                           action := tripActionOf cause ch.chc.mode } }
  (((u.move c .tripped).endLife c .tripped).endCapturesOf c .tripped).raise .trip

/-- A later cause of a TRIPPED channel: its mark is set, and a forced cause changes LOW_SHORT to PULSE_BLOCK
(R104, R16). -/
def State.laterCause (s : State) (c : Chan) (cause : TripCause) : State :=
  s.modChan c fun ch =>
    Channel.resource s.pins.permit s.mod.p (s.count c) ch.source
      { ch with tru := { ch.tru with
          later := ch.tru.later ||| BitVec.ofNat 12 (2 ^ cause.code),
          action := if cause.forced then .pulseBlock else ch.tru.action } }

/-- A trip event reaches a channel (R104). -/
def State.tripChannel (s : State) (c : Chan) (cause : TripCause) (detail : Nat) : State :=
  match s.cstate c with
  | .disabled => s
  | .tripped => s.laterCause c cause
  | .calibrating | .charging | .armed | .running | .rampdown => s.enterTrip c cause detail

/-- The cause with which a trip event reaches channel c: its own if it is addressed; PARTNER if its partner is
addressed and enters TRIPPED (R106). -/
def State.causeAt (s : State) (addressed : List Chan) (cause : TripCause) (detail : Nat) (c : Chan) :
    Option (TripCause × Nat) :=
  if addressed.contains c then some (cause, detail)
  else match s.partner c with
    | some q => if addressed.contains q && (s.cstate q).inService then some (.partner, q.val) else none
    | none => none

/-- A trip event (R103 to R106): one cause and the channels it addresses, lower channel first. -/
def State.tripEvent (s : State) (addressed : List Chan) (cause : TripCause) (detail : Nat) : State :=
  Chan.all.foldl (fun t c =>
    match s.causeAt addressed cause detail c with
    | some (k, d) => t.tripChannel c k d
    | none => t) s

/-! ### Ramping down and fast stops (R88, R100) -/

/-- A RUNNING channel enters RAMPDOWN with a cause; a channel in any other state is left as it is. -/
def State.rampFrom (s : State) (cause : RampCause) (c : Chan) : State :=
  if s.cstate c = .running then
    (s.move c .rampdown).modChan c fun ch => { ch with chc := { ch.chc with rampCause := cause } }
  else s

/-- The channels a fast stop request reaches: those named, and both members of a pair it reaches through
either (R96, R100). -/
def State.reached (s : State) (named : List Chan) : List Chan :=
  Chan.all.filter fun c => named.contains c || match s.partner c with
    | some q => named.contains q
    | none => false

/-- A fast stop request acts on one channel that it does not escalate (R100). -/
def State.fastStopOne (s : State) (c : Chan) : State :=
  match s.cstate c with
  | .running => s.rampFrom .fastStop c
  | .rampdown => s.modChan c fun ch => { ch with chc := { ch.chc with rampCause := .fastStop } }
  | .armed =>
    match s.lifeOf c with
    | some l => if l.kind = .run then s.endLife c .aborted else s
    | none => s
  | .disabled | .calibrating | .charging | .tripped => s

/-- A channel in fast RAMPDOWN, which a fast stop trips (R100). -/
def State.fastRamping (s : State) (c : Chan) : Bool :=
  s.cstate c == .rampdown && (s.chan c).chc.rampCause == .fastStop

/-- A fast stop request to the named channels: each is judged by its state at the request; those in fast
RAMPDOWN trip with STOP_ESCALATED in one trip event, the others ramp, or lose their RUN (R100). The RUNs that
it aborts complete before the orders that its escalations end (log 27). -/
def State.fastStopRequest (s : State) (named : List Chan) : State :=
  let cs := s.reached named
  let t := (cs.filter fun c => !s.fastRamping c).foldl State.fastStopOne s
  let esc := cs.filter s.fastRamping
  if esc.isEmpty then t else t.tripEvent esc .stopEscalated 0

/-! ### Low-level external inputs (R111) -/

/-- An input acts by its low level. -/
def Xt.actsLow (x : Xt) (a : XtAction) : Bool :=
  x.set.proc == .lowLevel && x.set.action == a && !x.level

/-- The channels of a list that an input routes. -/
def Xt.routed (x : Xt) (cs : List Chan) : List Chan := cs.filter fun c => x.set.route.getLsbD c.val

/-- The channels in service of a list that a LOW_LEVEL input with action TRIP and a low level routes, with the
input; none if there is no such channel (R111). -/
def State.lowHit (s : State) (cs : List Chan) (i : Quad) : Option (Quad × List Chan) :=
  let x := s.tru.xt.get i
  let hit := (x.routed cs).filter fun c => (s.cstate c).inService
  if x.actsLow .trip && !hit.isEmpty then some (i, hit) else none

/-- Some of the LOW_LEVEL inputs with action TRIP act on the given channels by their low level: one trip event
for each input (R110, R111). Several inputs act in a free order (R105, log 7). -/
def State.lowLevelTrips (s : State) (inputs : List Quad) (cs : List Chan) : State :=
  let act := fun (t : State) (h : Quad × List Chan) => t.tripEvent h.2 .external h.1.val
  match inputs.filterMap (s.lowHit cs) with
  | [] => s
  | [h] => act s h
  | hits =>
    let key := fun (h : Quad × List Chan) => Config.tieBreak (s.draws + h.1.val)
    (hits.insertionSort fun x y => key x ≤ key y).foldl act { s with draws := s.draws + 4 }

/-- LOW_LEVEL inputs with action FAST_STOP whose level is low raise one fast stop request to the routed ones
of the channels that have just entered RUNNING (R111, log 16). -/
def State.lowLevelStops (s : State) (cs : List Chan) : State :=
  let hit := cs.filter fun c => Quad.all.any fun i =>
    (s.tru.xt.get i).actsLow .fastStop && (s.tru.xt.get i).set.route.getLsbD c.val
  if hit.isEmpty then s else s.fastStopRequest hit

/-! ### Jobs (R35, R36, R66) -/

/-- The kind of the job that a channel state gives (R35). -/
def jobKind : ChanState → Option JobKind
  | .disabled => none
  | .calibrating => some .calibration
  | .charging | .armed | .tripped => some .measuring
  | .running | .rampdown => some .full

/-- The pair inputs of a follower (R46). -/
def State.leadIn (s : State) (c : Chan) : Option LeadIn :=
  match s.pairOf c with
  | some p => if p.follower = c then some ⟨(s.chan p.leader).qDemand, p.share⟩ else none
  | none => none

/-- The inputs a job on this set reads at its start (R36). -/
def State.jobInputs (s : State) (x : SampleSet) : JobIn :=
  let ch := s.chan x.chan
  { rawA := x.rawA, rawB := x.rawB, offA := ch.smu.offA, offB := ch.smu.offB, udc := s.link.udc,
    r := s.link.r, angle := ch.lpe.angle, w := ch.lpe.w, iqSheet := ch.qDemand, idSheet := ch.dDemand,
    vdFf := ch.exc.vdFf, vqFf := ch.exc.vqFf, ls := ch.exc.ls, offset := ch.exc.offset,
    lead := s.leadIn x.chan, gains := ch.chc.gains, limits := ch.chc.limits,
    dSource := ch.chc.mode.dSource, table := (s.chc.tables.get ch.chc.mode.table).active,
    gI := ch.chc.mode.gI, state := ch.chc.state, rampCause := ch.chc.rampCause, iD := ch.lpe.iD,
    iQ := ch.lpe.iQ, lastIdRef := ch.lpe.idRef, lastIqRef := ch.lpe.iqRef, index := ch.mod.index, p := s.mod.p,
    cmin := effCmin ch.chc.mode s.mod.p }

/-- The job ends with a SOFT_OC trip: the check is made in every job but a calibration one and one started while
TRIPPED (R37, R38, R40). -/
def Job.softOc (j : Job) : Bool :=
  j.kind != .calibration && j.inp.state != .tripped && j.inp.overItrip

/-- The period that ends at channel c's coming zero belongs to a job that R40 ends with SOFT_OC: one that has ended so,
or one in the engine, not void and before its deadline, that will (log 54). -/
def State.softOcPeriod (s : State) (c : Chan) : Bool :=
  (s.chan c).lpe.noJobDue || match s.lpe.engine with
    | some j => j.set.chan == c && j.void == .no && !j.late && j.softOc
    | none => false

/-- The idle engine starts a job on the head of the ready list (R66). A set whose channel is DISABLED gives no
job (R35); R65 has removed it. -/
def State.startJob (s : State) : State :=
  match s.lpe.engine, s.lpe.ready with
  | none, x :: rest =>
    match jobKind (s.cstate x.chan) with
    | some k =>
      { s with lpe := { s.lpe with
          ready := rest, engine := some ⟨x, k, 120, s.jobInputs x, false, .no⟩ } }
    | none => { s with lpe := { s.lpe with ready := rest } }
  | _, _ => s

/-- A set of channel c counts as late: its LATE flag is set and its late total grows (R67, R68, R71). -/
def State.countLate (s : State) (c : Chan) : State :=
  s.modChan c fun ch =>
    { ch with lpe := { ch.lpe with stats := { ch.lpe.stats with late := true },
                                   lateTotal := satAdd 65535 ch.lpe.lateTotal 1 } }

/-- Channel c's deadline, its carrier zero or a carrier restart: its waiting set leaves the ready list as late,
its job in flight and its conversions are marked (R67, R68). -/
def State.passDeadline (s : State) (c : Chan) : State :=
  let waiting := s.lpe.ready.any fun (x : SampleSet) => x.chan == c
  let t : State :=
    { s with
      conv := s.conv.map fun k =>
        { busy := k.busy.map fun (x : Conversion) => if x.chan = c then { x with late := true } else x,
          waiting := k.waiting.map fun (x : Trigger) => if x.chan = c then { x with late := true } else x },
      lpe := { s.lpe with
        ready := s.lpe.ready.filter fun (x : SampleSet) => x.chan != c,
        engine := s.lpe.engine.map fun (j : Job) => if j.set.chan = c then { j with late := true } else j } }
  if waiting then t.countLate c else t

/-! ### The timebase (R1, R4, R26, R30) -/

/-- The marks of the zeros and peaks of the current tick for every channel: a zero where the count is 0, a peak
where it is P (R4). -/
def State.markCarriers (s : State) : State :=
  { s with ch := s.ch.map fun ch =>
      let tau := carrierPos s.mod.tauRef ch.mod.offset s.mod.p
      { ch with mod := { ch.mod with zeroDue := tau == 0, zeroTaken := false,
                                     peakDue := carrierCount tau s.mod.p == s.mod.p } } }

/-- The timebase starts (R1): the reference position, j and S at 0, the carriers placed, the DC-link interval
and the cycle sum of udc at 0 (R26, R30). -/
def State.startTimebase (s : State) : State :=
  ({ s with
      mod := { s.mod with running := true, tauRef := 0, j := 0, s := 0, refDue := false, fetchDue := false },
      link := { s.link with pos := 0, due := false, cycSum := 0, cycCount := 0 } } : State).markCarriers

/-- Filtered levels still unset after a reset take the raw levels, without an edge (R110). -/
def State.loadXt (s : State) : State :=
  if s.tru.xtLoad then
    { s with tru := { s.tru with
        xtLoad := false, xt := s.tru.xt.map fun x => { x with level := x.raw, count := 0 } } }
  else s

/-! ### Taking a command -/

/-- The state after an event, with what follows it. -/
def State.finish (s : State) : Answered := .next s.follow

/-- An event of a part that is not held in hardware reset; under the reset input every block holds its reset
values and nothing happens (R186). -/
def State.live (s : State) (f : State → Answered) : Answered := if s.crw.held then .next s else f s

/-- A write to URGENT, REGION_BASE, NOTICE or NOTICE_ENABLE: ignored between a soft reset and its release, and
not answered under hardware reset (R186). -/
def State.window (s : State) (f : State → Answered) : Answered :=
  if s.crw.held || s.crw.softHold.isSome then .next s else f s

end Sys2Proof.Machine
end

