-- ==== Sys2Proof/Machine/Clock.lean ====
section
/-! DEFINITION. The meanings of the reset and clock commands (R1, R131, R186 to R188 and every block's reset
rule). -/

namespace Sys2Proof.Machine

/-! ### Resets -/

/-- The raw levels of the external trip inputs. -/
def State.rawXt (s : State) : Bank4 Bool := s.tru.xt.map Xt.raw

/-- The part after a hardware reset, with its pins as they are and the queue kept (R186). -/
def State.hardReset (s : State) (held : Bool) (straps : Straps) : State :=
  { State.afterReset held straps s.pins s.rawXt
      (s.ch.map fun ch => ch.tru.oc.map OcIn.active) (s.ch.map fun ch => ch.tru.gfLow) with
    pending := s.pending, draws := s.draws }

/-- HARDWARE_RESET: the reset input is asserted, and every block holds its reset values (R186). -/
def execHardwareReset (s : State) : Answered := .next (s.hardReset true s.crw.straps)

/-- HARDWARE_RESET_RELEASE: the straps are latched and attempt 1 begins in LOCKING (R186, R187). Not an event
of a part whose reset input is not asserted. -/
def execHardwareResetRelease (straps : Straps) (s : State) : Answered :=
  if s.crw.held then .next (s.hardReset false straps) else .next s

/-- A leg at a soft reset: switches that were on turn off and their off-time restarts (R19). -/
def LegGate.softReset (g : LegGate) : LegGate :=
  { want := .none, latchU := false, latchL := false,
    offU := if g.latchU then 0 else g.offU, offL := if g.latchL then 0 else g.offL }

/-- A channel at a soft reset (R19, R34, R63, R79, R102, R122, R151). -/
def Channel.softReset (c : Chan) (ch : Channel) : Channel :=
  { mod := ModCh.reset c (ch.mod.legs.map LegGate.softReset), smu := SmuCh.reset, lpe := LpeCh.reset,
    chc := ChcCh.reset, tru := TruCh.reset (ch.tru.oc.map OcIn.active) ch.tru.gfLow, exc := ExcCh.reset }

/-- The clamp of E when a DC-link record comes into force; at E_lim BRAKE_HOT is set and a chopper that is on is
forced off (R117, R121). -/
def Dls.withRecord (d : Dls) (dc : DcRec) : Dls :=
  let e := min d.e dc.eLim
  let hot := decide (dc.eLim ≤ e)
  { d with dc := dc, e := e, hot := d.hot || hot,
           chopper := d.chopper && !hot, offTime := if d.chopper && hot then 0 else d.offTime }

/-- DLS at a soft reset (R123): E and BRAKE_HOT are kept, with the clamp; the chopper is off. -/
def Dls.softReset (d : Dls) : Dls :=
  { Dls.withRecord { d with chopper := false, offTime := if d.chopper then 0 else d.offTime } DcRec.reset with
    armed := false, uvRun := false, ovRun := false, onTime := 0 }

/-- Every block at its soft-reset values (R186). With the clock FAILED, carriers that ran run on from
position 0, and the zeros and peaks that the carriers show at the reset tick are marked there, without a reference
event (log 12); otherwise they stand until the release (R1, R19). -/
def State.softResetValues (s : State) : State :=
  let running := s.crw.clock == .failed && s.mod.running
  let t : State :=
    { s with
      crw := { s.crw with softHold := some 16, notice := 0, enable := 0, reason := .none },
      mod := { Mod.reset with running := running },
      conv := Bank4.const Converter.idle, link := Link.reset, lpe := Lpe.reset, chc := Chc.reset,
      tru := Tru.reset s.rawXt, dls := s.dls.softReset, exc := Exc.reset,
      mpt := { Mpt.reset with clockOn := s.mpt.clockOn, phase := s.mpt.phase, edge := s.mpt.edge },
      ch := Bank8.ofFn fun c => Channel.softReset c (s.ch.get c) }
  if running then t.markCarriers else t

/-- SOFT_RESET: taken in every exchange and clock state (R186). -/
def execSoftReset (s : State) : Answered := s.window fun s => .next s.softResetValues

/-- SOFT_RESET_RELEASE: the timebase starts if the clock state is VALID (R1, R186). -/
def execSoftResetRelease (s : State) : Answered :=
  s.live fun s =>
    if s.crw.softHold.isNone then .next s
    else
      let t := ({ s with crw := { s.crw with softHold := none } } : State).loadXt
      .next (if t.crw.clock = .valid then t.startTimebase else t)

/-! ### The clock check -/

/-- Entry to LOCKING: the tick clock generator restarts and the attempt begins (R187). -/
def State.enterLocking (s : State) : State :=
  { s with crw := { s.crw with
      clock := .locking, refCount := 0, tickCount := 0, windowOn := false, refTick := 0 } }

/-- A comparator window begins at a reference edge: the counts of its periods and ticks start from 0 (R187, R188). -/
def State.beginWindow (s : State) : State :=
  { s with crw := { s.crw with refCount := 0, tickCount := 0, windowOn := true, refTick := 0 } }

/-- Entry to CHECKING: both counts are 0 until the first reference edge, at which the window begins (R187). -/
def State.enterChecking (s : State) : State :=
  { s with crw := { s.crw with clock := .checking, refCount := 0, tickCount := 0, windowOn := false } }

/-- An attempt has failed: LOCKING again, or FAILED with the CLOCK notice at the third failure (R187). -/
def State.failAttempt (s : State) : State :=
  let t : State := { s with crw := { s.crw with attempts := s.crw.attempts + 1 } }
  if t.crw.attempts < 3 then t.enterLocking
  else ({ t with crw := { t.crw with clock := .failed } } : State).raise .clock

/-- Entry to VALID from CHECKING: port clock edges fall from this tick (R179), and the timebase starts, unless
a soft reset holds it until its release (R1). -/
def State.enterValid (s : State) : State :=
  let t := ({ s with
      crw := { s.crw with clock := .valid },
      mpt := { s.mpt with clockOn := true, phase := false, edge := true } } : State).beginWindow
  if t.crw.softHold.isSome then t else t.startTimebase

/-- The exchange enters STOPPED at a clock failure (R131): sequences not yet begun are withdrawn (trip dumps stay
filed), the walk ends, orders and captures are dropped without completion, and a waiting sheet is dropped (R141).
DESIGN CHOICE, unsafe: a report snapshot that still waits in EXC counts as a sequence not yet begun and is dropped
uncounted (log 50), and the ready mark is cleared (log 49). -/
def State.stopExchange (s : State) : State :=
  let t := s.dropFetch
  { t with
    exc := { t.exc with
      state := .stopped, dirWanted := false, sheet := none, sheetDue := false, reportWaiting := none,
      ready := false, finalTaken := false, walk := none, slots := List.replicate 16 .free,
      writeBack := [] },
    mpt := { t.mpt with pFetch := none, pReport := none, pDump := false, pWalk := none, pCapture := none },
    lpe := { t.lpe with cap0 := CapCtx.free, cap1 := CapCtx.free },
    chc := { t.chc with
      tables := t.chc.tables.map fun k => { k with staged := k.staged.map fun x => { x with slots := [] } },
      stCarrier := t.chc.stCarrier.map fun x => { x with slots := [] },
      stDcLink := t.chc.stDcLink.map fun x => { x with slots := [] },
      stXt := t.chc.stXt.map fun x => { x with slots := [] } },
    ch := t.ch.map fun ch => { ch with chc := { ch.chc with
      life := none,
      stGains := ch.chc.stGains.map fun x => { x with slots := [] },
      stLimits := ch.chc.stLimits.map fun x => { x with slots := [] } } } }

/-- The clock fails in VALID (R188): FAILED, the CLOCK notice, a CLOCK trip of every channel, the exchange
STOPPED. -/
def State.clockFailure (s : State) : State :=
  ((({ s with crw := { s.crw with clock := .failed } } : State).raise .clock).tripEvent
    Chan.all .clock 0).stopExchange

/-- LOCK_INDICATED: the clock state becomes CHECKING, whose window begins at the next reference edge (R187). -/
def execLockIndicated (s : State) : Answered :=
  s.live fun s =>
    if s.crw.clock = .locking then
      .next s.enterChecking
    else .next s

/-- LOCK_TIMEOUT: no lock within 5000 reference periods, so the attempt fails (R187). -/
def execLockTimeout (s : State) : Answered :=
  s.live fun s => if s.crw.clock = .locking then .next s.failAttempt else .next s

/-- TICK_COUNT_OVERRUN: the tick count reaches 8200 within the window (R187, R188). -/
def execTickCountOverrun (s : State) : Answered :=
  s.live fun s =>
    match s.crw.clock with
    | .checking => .next s.failAttempt
    | .valid => s.clockFailure.finish
    | .locking | .failed => .next s

/-- COMPARATOR_WINDOW_END: the tick count found passes in 7992..8008 (R187, R188). -/
def execComparatorWindowEnd (ticks : Nat) (s : State) : Answered :=
  s.live fun s =>
    let pass := decide (7992 ≤ ticks) && decide (ticks ≤ 8008)
    match s.crw.clock with
    | .checking => .next (if pass then s.enterValid else s.failAttempt)
    | .valid => if pass then .next s.beginWindow else s.clockFailure.finish
    | .locking | .failed => .next s

end Sys2Proof.Machine
end

