-- ==== Sys2Proof/Machine/GateCmds.lean ====
section
/-! DEFINITION. The meanings of the gate events: compare edges, deadtimes, charge pulses and PERMIT (R12, R14, R15,
R17, R18, R84, R113). -/

namespace Sys2Proof.Machine

/-- COMPARE_EDGE: at the rising count the leg comes to want its lower switch, at the falling count its upper
one (R12), and the latches of this leg follow (R14): another leg of the channel whose own edge is still to be taken in
the tick does not act on its old want. A leg held still, or not modulated, has no edges. -/
def execCompareEdge (c : Chan) (leg : Leg) (rising : Bool) (s : State) : Answered :=
  s.live fun s =>
    let ch := s.chan c
    let cmp := ch.mod.active.get leg
    if ch.source = .modulator ∧ 0 < cmp ∧ cmp < s.mod.p then
      let want := if rising then Want.lower else Want.upper
      let legs := ch.mod.legs.set leg { ch.mod.legs.get leg with want := want }
      (s.setChan c (Channel.settleLeg s.pins.permit s.mod.p leg { ch with mod := { ch.mod with legs := legs } })).finish
    else .next s

/-- The want that turns a switch on. -/
def switchWant (upper : Bool) : Want := if upper then .upper else .lower

/-- DEADTIME_ELAPSED: the switch turns on if it is still wanted, its complement has been off for the effective
deadtime and PERMIT is active (R14, R17). -/
def execDeadtimeElapsed (c : Chan) (leg : Leg) (upper : Bool) (s : State) : Answered :=
  s.live fun s =>
    if ((s.chan c).mod.legs.get leg).want = switchWant upper then
      (s.modChan c (Channel.settleLeg s.pins.permit s.mod.p leg)).finish
    else .next s

/-- Every member of channel c's pair, or c alone, is ARMED. -/
def State.allArmed (s : State) (c : Chan) : Bool := (s.members c).all fun m => s.cstate m == .armed

/-- The lifecycle order of a kind in flight ends OK once every member is ARMED (R84, R90). -/
def State.endWhenArmed (s : State) (c : Chan) (kind : LifeKind) : State :=
  match s.lifeOf c with
  | some l => if l.kind = kind ∧ s.allArmed c then s.endLife c .ok else s
  | none => s

/-- CHARGE_PULSE_END: the lower switches are wanted off and the count falls by one (R15); at 0 the channel becomes
ARMED, and its START ends OK, for a pair with the second member (R84). -/
def execChargePulseEnd (c : Chan) (s : State) : Answered :=
  s.live fun s =>
    let ch := s.chan c
    if ch.source = .charge ∧ ch.mod.pulse.isSome then
      let left := ch.mod.pulses - 1
      let t := s.modChan c fun ch =>
        Channel.rewant s.pins.permit s.mod.p (s.count c)
          { ch with mod := { ch.mod with pulses := left, pulse := none } }
      (if left = 0 then (t.move c .armed).endWhenArmed c .start else t).finish
    else .next s

/-- Every latch follows what its leg wants and PERMIT allows (R14, R17). -/
def State.settleAll (s : State) : State := Chan.all.foldl State.settleGates s

/-- PERMIT_INACTIVE: every latch is off at that event (R17), and a PERMIT_LOST trip event addresses every channel
(R113). -/
def execPermitInactive (s : State) : Answered :=
  let t : State := { s with pins := { s.pins with permit := false } }
  if s.crw.held || !s.pins.permit then .next t
  else (t.settleAll.tripEvent Chan.all .permitLost 0).finish

/-- PERMIT_ACTIVE: each latch follows its wanted state, subject to R14 (R17); TRU raises no event (R113). -/
def execPermitActive (s : State) : Answered :=
  let t : State := { s with pins := { s.pins with permit := true } }
  if s.crw.held then .next t else t.settleAll.finish

end Sys2Proof.Machine
end

