-- ==== Sys2Proof/Machine/Engine.lean ====
section
/-! DEFINITION. The meanings of the measurement and engine events: conversions, jobs and DC-link samples (R21 to R24,
R27 to R33, R40, R62, R66 to R76, R83, R90, R118 to R121). -/

namespace Sys2Proof.Machine

/-! ### CONVERSION_COMPLETE -/

/-- A converter whose conversion is complete serves the trigger that waits, with its skew (R20 to R22). -/
def Converter.serve (k : Converter) : Converter :=
  match k.waiting with
  | none => ⟨none, none⟩
  | some w => ⟨some ⟨w.chan, min w.waited 255, 100, w.periodCount, w.late, false⟩, none⟩

/-- The sample set of a finished conversion: none for a channel disabled meanwhile (R23), counted late if its
deadline has passed (R67), else at the tail of the ready list (R24, R64). -/
def State.deliver (s : State) (x : Conversion) (rawA rawB : BitVec 12) : State :=
  if x.void then s
  else if x.late then s.countLate x.chan
  else
    { s with lpe := { s.lpe with
        ready := s.lpe.ready ++ [⟨x.chan, rawA.toNat, rawB.toNat, x.skew, x.periodCount⟩] } }

/-- CONVERSION_COMPLETE (R20 to R24, R66). An idle converter completes nothing. -/
def execConversionComplete (k : Quad) (rawA rawB : BitVec 12) (s : State) : Answered :=
  s.live fun s =>
    match (s.conv.get k).busy with
    | none => .next s
    | some x =>
      ((({ s with conv := s.conv.set k (s.conv.get k).serve } : State).deliver x rawA rawB).startJob).finish

/-! ### JOB_COMPLETE: calibration (R31, R32, R83) -/

/-- A candidate offset (R32). -/
def candidateOffset (sum : Nat) : Nat := (sum + 32) / 64

/-- A candidate lies in the offset window (R32). -/
def inWindow (w x : Nat) : Bool := decide (2048 ≤ x + w) && decide (x ≤ 2048 + w)

/-- Calibration is complete (R32, R83): PASS sets the offsets and moves the channel to CHARGING; OFFSET_RANGE
returns the channel, both members of a pair, to DISABLED and ends the START. -/
def State.finishCalibration (s : State) (c : Chan) (sumA sumB : Nat) : State :=
  let w := (s.chan c).chc.mode.window
  let a := candidateOffset sumA
  let b := candidateOffset sumB
  if inWindow w a && inWindow w b then
    (s.modChan c fun ch => { ch with smu := { ch.smu with offA := a, offB := b } }).move c .charging
  else (s.endLife c .offsetRange).moveAll (s.members c) .disabled

/-- The commit of a calibration job (R31, R37). -/
def State.commitCalibration (s : State) (x : SampleSet) : State :=
  let ch := s.chan x.chan
  if ch.chc.state = .calibrating ∧ ch.smu.n < 64 then
    let a := ch.smu.sumA + x.rawA
    let b := ch.smu.sumB + x.rawB
    let t := s.setChan x.chan
      { ch with smu := { ch.smu with sumA := a, sumB := b, n := ch.smu.n + 1 } }
    if ch.smu.n + 1 = 64 then t.finishCalibration x.chan a b else t
  else s

/-! ### JOB_COMPLETE: full and measuring jobs (R62, R70 to R76) -/

/-- The statistics of the cycle with one more commit (R71). -/
def Stats.commit (st : Stats) (r : JobOut) : Stats :=
  { st with commits := st.commits + 1, idSum := st.idSum + r.id, iqSum := st.iqSum + r.iq,
            limI := st.limI || r.limI, limV := st.limV || r.limV, vd := r.vd, vq := r.vq,
            iqRef := r.iqRef }

/-- The history entry of a committed result (R72). -/
def histEntry (x : SampleSet) (r : JobOut) : HistEntry :=
  { periodLow := x.periodCount.setWidth 16, thetaS := r.thetaS, id := r.id, iq := r.iq, iqRef := r.iqRef,
    vd := r.vd, vq := r.vq, limI := r.limI, limV := r.limV, skew := x.skew }

/-- An entry joins a history of at most 32 (R72). -/
def appendHist (h : List HistEntry) (e : HistEntry) : List HistEntry :=
  if h.length < 32 then h ++ [e] else h.drop 1 ++ [e]

/-- The tap of a commit by one context (R75, R76). -/
def CapCtx.tap (k : CapCtx) (c : Chan) (e : HistEntry) (number : Nat) : CapCtx :=
  if k.state = .active ∧ k.chan = c then
    let next := (k.decCount + 1) % k.decim
    if k.decCount = 0 then
      let full := decide (64 ≤ k.fifo.length)
      { k with decCount := next, produced := k.produced + 1,
               fifo := if full then k.fifo
                 else k.fifo ++ [⟨k.produced, number, captureWords e k.produced k.mask⟩],
               drops := if full then satAdd 65535 k.drops 1 else k.drops,
               state := if k.produced + 1 = k.count then .draining else .active }
    else { k with decCount := next }
  else k

/-- The history and the capture taps of a commit of channel c (R72, R75); nothing while the history is
frozen. -/
def State.record (s : State) (c : Chan) (e : HistEntry) : State :=
  let ch := s.chan c
  if ch.lpe.frozen then s
  else
    let t := s.setChan c { ch with lpe := { ch.lpe with hist := appendHist ch.lpe.hist e } }
    { t with lpe := { t.lpe with
        cap0 := t.lpe.cap0.tap c e t.lpe.taps, cap1 := t.lpe.cap1.tap c e t.lpe.taps,
        taps := t.lpe.taps + 1 } }

/-- A channel in RAMPDOWN whose ramp is complete becomes ARMED, and a STOP in flight ends OK, for a pair with the
second member (R90). -/
def State.rampComplete (s : State) (c : Chan) : State :=
  if s.cstate c = .rampdown then (s.move c .armed).endWhenArmed c .stop else s

/-- The loop state a full job leaves (R62). -/
def LpeCh.take (x : LpeCh) (r : JobOut) : LpeCh :=
  { x with iD := r.iD, iQ := r.iQ, idRef := r.idRef, iqRef := r.iqRef, vd := r.vd, vq := r.vq }

/-- The commit of a full job (R8, R62, R70). DESIGN CHOICE, unsafe: the ramp-complete of R50 comes from a job started in
RAMPDOWN; a job begun in RUNNING that commits with iq_ref 0 in RAMPDOWN raises none (log 53). -/
def State.commitFull (s : State) (j : Job) : State :=
  let c := j.set.chan
  let r := fullResult j.inp
  let t := s.modChan c fun ch =>
    { ch with
      lpe := { LpeCh.take ch.lpe r with stats := ch.lpe.stats.commit r },
      mod := if ch.source = .modulator then { ch.mod with shadow := some r.cmp } else ch.mod }
  let u := t.record c (histEntry j.set r)
  if j.inp.state = .rampdown ∧ r.iqRef = 0 then u.rampComplete c else u

/-- The commit of a measuring job (R38, R70). -/
def State.commitMeasuring (s : State) (j : Job) : State :=
  let c := j.set.chan
  let r := measuringResult j.inp
  let t := s.modChan c fun ch =>
    { ch with lpe := { ch.lpe with stats := ch.lpe.stats.commit r } }
  if j.inp.state = .tripped then t else t.record c (histEntry j.set r)

/-- The commit of a job (R70). -/
def State.commit (s : State) (j : Job) : State :=
  match j.kind with
  | .calibration => s.commitCalibration j.set
  | .measuring => s.commitMeasuring j
  | .full => s.commitFull j

/-- A job that is not void ends with SOFT_OC: its trip is handed, and with its zero still to come the period that ends
there will count as one without a job (R40). The zero of a job already past its deadline has counted it. -/
def State.endSoftOc (s : State) (j : Job) : State :=
  (s.tripEvent [j.set.chan] .softOc 0).modChan j.set.chan fun ch =>
    { ch with lpe := { ch.lpe with noJobDue := ch.lpe.noJobDue || !j.late } }

/-- A finished job is committed, discarded as LATE, void, or ends with SOFT_OC (R40, R68, R69). A void job hands its
trip by R69 and counts for no statistics. -/
def State.concludeJob (s : State) (j : Job) : State :=
  match j.void with
  | .disabled => s
  | .tripped => if j.softOc then s.tripEvent [j.set.chan] .softOc 0 else s
  | .no =>
    if j.softOc then s.endSoftOc j
    else if j.late then s.countLate j.set.chan
    else s.commit j

/-- JOB_COMPLETE (R66, R68). An idle engine completes nothing. -/
def execJobComplete (s : State) : Answered :=
  s.live fun s =>
    match s.lpe.engine with
    | none => .next s
    | some j =>
      ((({ s with lpe := { s.lpe with engine := none } } : State).concludeJob j).startJob).finish

/-! ### DC_SAMPLE -/

/-- The DC-link value of a raw code (R27). -/
def linkVoltage (raw gU : Nat) : Nat := min 32767 ((raw * gU + 128) / 256)

/-- The DC link with a new value: r follows from 1024 up, the cycle sum grows (R27, R28, R30). -/
def Link.sample (k : Link) (udc : Nat) : Link :=
  { k with pos := 0, due := false, udc := udc, r := if 1024 ≤ udc then 2 ^ 30 / udc else k.r,
           cycSum := k.cycSum + udc, cycCount := k.cycCount + 1 }

/-- The brake energy update: E, BRAKE_HOT and the forced turn-off (R121). -/
def Dls.updateEnergy (d : Dls) : Dls :=
  let e := d.e + (if d.chopper then d.dc.onInc else 0) - d.dc.decay
  if d.dc.eLim ≤ e then
    { d with e := e, hot := true, chopper := false, offTime := if d.chopper then 0 else d.offTime }
  else { d with e := e, hot := d.hot && !decide (e ≤ d.dc.eLim / 2) }

/-- The chopper by its thresholds and minimum times (R120). -/
def Dls.switchChopper (d : Dls) (udc : Nat) : Dls :=
  if d.chopper then
    if udc ≤ d.dc.brakeOff ∧ d.dc.minOn ≤ d.onTime then { d with chopper := false, offTime := 0 } else d
  else if d.hot = false ∧ d.dc.brakeOn ≤ udc ∧ d.dc.minOff ≤ d.offTime then
    { d with chopper := true, onTime := 0 }
  else d

/-- DLS at a sample: E and the chopper, the arming, and the outcomes of the two tests (R118 to R121). -/
def Dls.sample (d : Dls) (udc : Nat) : Dls :=
  let x := (d.updateEnergy).switchChopper udc
  { x with armed := d.armed || decide (d.dc.uvRelease ≤ udc), uvRun := decide (udc < d.dc.uv),
           ovRun := decide (d.dc.ov ≤ udc) }

/-- The channels a link trip addresses: those in service, and at the first sample of a run the TRIPPED ones
(R118, R119). -/
def State.linkAddressed (s : State) (first : Bool) : List Chan :=
  Chan.all.filter fun c => (s.cstate c).inService || (first && s.cstate c == .tripped)

/-- DC_SAMPLE (R27 to R30, R118 to R121). No event while the carriers are stopped (R26). -/
def execDcSample (raw : BitVec 12) (s : State) : Answered :=
  s.live fun s =>
    if s.mod.running then
      let udc := linkVoltage raw.toNat s.dls.dc.gU
      let d := s.dls.sample udc
      let t : State := { s with link := s.link.sample udc, dls := d }
      let u := if d.armed && d.uvRun then
          t.tripEvent (t.linkAddressed (!s.dls.uvRun)) .undervoltage 0 else t
      let v := if d.ovRun then u.tripEvent (u.linkAddressed (!s.dls.ovRun)) .overvoltage 0 else u
      v.finish
    else .next s

end Sys2Proof.Machine
end

