-- ==== Sys2Proof/Machine/Orders.lean ====
section
/-! DEFINITION. The takes of orders: the judgement common to all kinds, the slot and the answer (R157 to R160), and the
parameter, pair and capture orders (R74, R95 to R98, R164 to R174). -/

namespace Sys2Proof.Machine

/-! ### The take (R158 to R160) -/

/-- What a take leads to: an order complete at its take, or one left in flight; `fixed` is the result a staged
kind completes with (R98). -/
inductive Taken where
  | done (r : Result)
  | inFlight (fixed : Result)
  deriving DecidableEq, Repr

/-- The claimed block that this take takes: the walk has come to its take, and it is a block of this kind. -/
def State.claimedFor (s : State) (k : Option OrderKind) : Option Claimed :=
  match s.exc.walk with
  | some ⟨.take, _, some x⟩ => if orderKind (blockKind x.w0) = k then some x else none
  | some _ | none => none

/-- The reserved slot of a claimed block holds the order from its take (R160). -/
def State.holdSlot (s : State) (x : Claimed) : State :=
  match x.slot with
  | some i => s.setSlot i (.held ⟨x.addr, x.w0, x.w2, .ok, false, none⟩)
  | none => s

/-- The slot of a claimed block is available again (R160). -/
def State.dropSlot (s : State) (x : Claimed) : State :=
  match x.slot with
  | some i => s.setSlot i .free
  | none => s

/-- The answer write of the taken block follows (R158). -/
def State.setAnswer (s : State) (x : Claimed) (a : Answer) : State :=
  match s.exc.walk with
  | some w => { s with exc := { s.exc with
      walk := some { w with stage := .answer, claimed := some { x with answer := some a } } } }
  | none => s

/-- The end of a take at the claimed block: an order complete or refused releases its slot and is answered in the
completed form, with S at the take as its stamp; so is one that has ended within its own take; any other is
left in flight and answered ACTIVE (R158, R160). -/
def State.answerTake (s : State) (x : Claimed) (t : Taken) : State :=
  match t with
  | .done r => (s.dropSlot x).setAnswer x (.done r s.mod.s)
  | .inFlight fixed =>
    match x.slot with
    | none => s.setAnswer x .active
    | some i =>
      match s.slot i with
      | .held o =>
        match o.early with
        | some (r, stamp) => (s.dropSlot x).setAnswer x (.done r stamp)
        | none => (s.setSlot i (.held { o with fixed := fixed })).setAnswer x .active
      | .free | .reserved | .writing => s.setAnswer x .active

/-- The judgement of an order of a known kind: the common checks of R158, then the kind's own rule. -/
def State.judge (s : State) (k : OrderKind) (o : Order) (act : State → State × Taken) : State × Taken :=
  match orderCheck k o with
  | some r => (s, .done r)
  | none => act s

/-- The take of an order (R158). `act` is the kind's own rule, given the order's slot. With no claimed block of the
kind at its take there is no slot and no answer (log 1). -/
def State.takeOrder (s : State) (k : OrderKind) (o : Order)
    (act : Option Nat → State → State × Taken) : Answered :=
  s.live fun s =>
    match s.claimedFor (some k) with
    | some x =>
      let r := (s.holdSlot x).judge k o (act x.slot)
      (r.1.answerTake x r.2).finish
    | none => (s.judge k o (act none)).1.finish

/-- OK, or ADJUSTED when a clamp has acted (R164). -/
def okOr (adjusted : Bool) : Result := if adjusted then .adjusted else .ok

/-- A refusal changes nothing (R175). -/
def refuse (s : State) (r : Result) : State × Taken := (s, .done r)

/-- The kind's rule for the channel that the order names; the common checks have found one (R158). -/
def onChannel (o : Order) (s : State) (f : Chan → State × Taken) : State × Taken :=
  match orderChan o with
  | some c => f c
  | none => refuse s .badField

/-! ### Staged orders (R98, R165, R166, R168, R170 to R172) -/

/-- A staged record replaces one still waiting; the orders of both complete at the same swap (R98). -/
def stage {α : Type} (old : Option (Staged α)) (value : α) (slot : Option Nat) : Option (Staged α) :=
  some ⟨value, (match old with
    | some x => x.slots
    | none => []) ++ slot.toList⟩

/-- The gains of a SET_GAINS order, and whether a clamp acted (R165). -/
def gainsOf (o : Order) : Gains × Bool :=
  let f := fun (i : Nat) => lower (bodyField o i) 32767
  let a := lower (bodyField o 7) 48
  (⟨(f 0).1, (f 1).1, (f 2).1, (f 3).1, (f 4).1, (f 5).1, (f 6).1, a.1, bodyField o 8 == 1⟩,
    (f 0).2 || (f 1).2 || (f 2).2 || (f 3).2 || (f 4).2 || (f 5).2 || (f 6).2 || a.2)

/-- The rule of SET_GAINS (R165). -/
def actSetGains (o : Order) (slot : Option Nat) (s : State) : State × Taken :=
  onChannel o s fun c =>
    if 1 < bodyField o 8 then refuse s .badField
    else
      let g := gainsOf o
      (s.modChan c fun ch => { ch with chc := { ch.chc with stGains := stage ch.chc.stGains g.1 slot } },
        .inFlight (okOr g.2))

/-- SET_GAINS (R165). -/
def execSetGains (o : Order) (s : State) : Answered := s.takeOrder .setGains o (actSetGains o)

/-- The limits of a SET_LIMITS order, and whether a clamp acted (R166). -/
def limitsOf (o : Order) : Limits × Bool :=
  let f := fun (i : Nat) => lower (bodyField o i) 32767
  let g := fun (i : Nat) => within (bodyField o i) 1 32767
  (⟨(f 0).1, (f 1).1, (f 2).1, (g 3).1, (g 4).1, (f 5).1, (f 6).1,
      if bodyField o 7 = 1 then .strict else .lenient⟩,
    (f 0).2 || (f 1).2 || (f 2).2 || (g 3).2 || (g 4).2 || (f 5).2 || (f 6).2)

/-- The rule of SET_LIMITS (R166). -/
def actSetLimits (o : Order) (slot : Option Nat) (s : State) : State × Taken :=
  onChannel o s fun c =>
    if 1 < bodyField o 7 then refuse s .badField
    else
      let l := limitsOf o
      (s.modChan c fun ch => { ch with chc := { ch.chc with stLimits := stage ch.chc.stLimits l.1 slot } },
        .inFlight (okOr l.2))

/-- SET_LIMITS (R166). -/
def execSetLimits (o : Order) (s : State) : Answered := s.takeOrder .setLimits o (actSetLimits o)

/-- The breakpoints of a LOAD_FIELD_TABLE order (R168). -/
def tableOf (o : Order) : FieldTable :=
  (List.range (bodyField o 1)).map fun i => (bodyField o (2 + 2 * i), bodySigned o (3 + 2 * i))

/-- Speeds strictly increasing (R168). -/
def increasing : List Nat → Bool
  | x :: y :: rest => decide (x < y) && increasing (y :: rest)
  | [_] | [] => true

/-- The breakpoints are acceptable (R168). -/
def tableOk (o : Order) : Bool :=
  decide (bodyField o 0 ≤ 3) && decide (2 ≤ bodyField o 1) && decide (bodyField o 1 ≤ 16)
    && (tableOf o).all (fun b => decide (b.1 ≤ 32767)) && increasing ((tableOf o).map Prod.fst)

/-- The table a LOAD_FIELD_TABLE order names (R168). -/
def tableIndex (o : Order) : Quad := ⟨bodyField o 0 % 4, Nat.mod_lt _ (by decide)⟩

/-- The rule of LOAD_FIELD_TABLE (R168). -/
def actLoadFieldTable (o : Order) (slot : Option Nat) (s : State) : State × Taken :=
  if tableOk o then
    let i := tableIndex o
    let k := s.chc.tables.get i
    ({ s with chc := { s.chc with
        tables := s.chc.tables.set i { k with staged := stage k.staged (tableOf o) slot } } },
      .inFlight .ok)
  else refuse s .badField

/-- LOAD_FIELD_TABLE (R168). -/
def execLoadFieldTable (o : Order) (s : State) : Answered :=
  s.takeOrder .loadFieldTable o (actLoadFieldTable o)

/-- Every channel is DISABLED. -/
def State.allDisabled (s : State) : Bool := Chan.all.all fun c => s.cstate c == .disabled

/-- The carrier record of a SET_CARRIER order, and whether it was adjusted (R170). -/
def carrierOf (o : Order) : CarrierRec × Bool :=
  let p := within (bodyField o 0) 1000 25000
  let off := fun (c : Chan) => bodyField o (1 + c.val)
  (⟨p.1, Bank8.ofFn fun c => off c % (2 * p.1)⟩, p.2 || Chan.all.any fun c => decide (2 * p.1 ≤ off c))

/-- The rule of SET_CARRIER (R170). -/
def actSetCarrier (o : Order) (slot : Option Nat) (s : State) : State × Taken :=
  if s.allDisabled then
    let x := carrierOf o
    ({ s with chc := { s.chc with stCarrier := stage s.chc.stCarrier x.1 slot } }, .inFlight (okOr x.2))
  else refuse s .wrongState

/-- SET_CARRIER (R170). -/
def execSetCarrier (o : Order) (s : State) : Answered := s.takeOrder .setCarrier o (actSetCarrier o)

/-- The thresholds of a SET_DC_LINK order are in range and in order (R171). -/
def thresholdsOk (o : Order) : Bool :=
  let f := bodyField o
  decide (f 1 < f 2) && decide (f 2 < f 3) && decide (f 3 < f 4) && decide (f 4 < f 5)
    && decide (f 5 ≤ 32767)

/-- The DC-link record of a SET_DC_LINK order, and whether a clamp acted (R171). -/
def dcRecOf (o : Order) : DcRec × Bool :=
  let f := bodyField o
  let inc := within (f 8) 1 65535
  let lim := within (bodyWide o 10) 1 16777215
  (⟨f 0, f 1, f 2, f 3, f 4, f 5, f 6, f 7, inc.1, f 9, lim.1⟩, inc.2 || lim.2)

/-- The rule of SET_DC_LINK (R171). -/
def actSetDcLink (o : Order) (slot : Option Nat) (s : State) : State × Taken :=
  if thresholdsOk o then
    let x := dcRecOf o
    ({ s with chc := { s.chc with stDcLink := stage s.chc.stDcLink x.1 slot } }, .inFlight (okOr x.2))
  else refuse s .badField

/-- SET_DC_LINK (R171). -/
def execSetDcLink (o : Order) (s : State) : Answered := s.takeOrder .setDcLink o (actSetDcLink o)

/-- The processing of a code (R172). -/
def xtProcOf : Nat → XtProc
  | 1 => .rising
  | 2 => .falling
  | 3 => .lowLevel
  | _ => .disabled

/-- The settings of input i in a SET_TRIP_INPUTS order, and whether the filter was clamped (R172). -/
def xtSetOf (o : Order) (i : Quad) : XtSet × Bool :=
  let f := fun (n : Nat) => bodyField o (4 * i.val + n)
  let k := within (f 3) 1 255
  (⟨xtProcOf (f 0), BitVec.ofNat 8 (f 1), if f 2 = 1 then .fastStop else .trip, k.1⟩, k.2)

/-- The enumerations and route masks of a SET_TRIP_INPUTS order are in range (R172). -/
def xtFieldsOk (o : Order) : Bool :=
  Quad.all.all fun i =>
    let f := fun (n : Nat) => bodyField o (4 * i.val + n)
    decide (f 0 ≤ 3) && decide (f 1 ≤ 255) && decide (f 2 ≤ 1)

/-- The rule of SET_TRIP_INPUTS (R172). -/
def actSetTripInputs (o : Order) (slot : Option Nat) (s : State) : State × Taken :=
  if xtFieldsOk o then
    let x := fun (i : Quad) => (xtSetOf o i).1
    ({ s with chc := { s.chc with stXt := stage s.chc.stXt ⟨x 0, x 1, x 2, x 3⟩ slot } },
      .inFlight (okOr (Quad.all.any fun i => (xtSetOf o i).2)))
  else refuse s .badField

/-- SET_TRIP_INPUTS (R172). -/
def execSetTripInputs (o : Order) (s : State) : Answered := s.takeOrder .setTripInputs o (actSetTripInputs o)

/-! ### Orders complete at their take (R167, R169) -/

/-- The d source of a code (R167). -/
def dSourceOf : Nat → DSource
  | 1 => .sheet
  | 2 => .table
  | _ => .zero

/-- The enumerations of a SET_CHANNEL_MODE order are in range (R167). -/
def modeFieldsOk (o : Order) : Bool :=
  decide (bodyField o 0 ≤ 2) && decide (bodyField o 1 ≤ 3) && decide (bodyField o 2 ≤ 1)
    && decide (bodyField o 3 ≤ 1)

/-- The mode group of a SET_CHANNEL_MODE order, and whether a clamp acted (R167). -/
def modeOf (o : Order) : Mode × Bool :=
  let f := bodyField o
  let window := lower (f 6) 2047
  let pulses := within (f 7) 1 64
  let width := within (f 8) 1 25000
  let dead := lower (f 9) 255
  let cmin := lower (f 10) 3125
  let blank := lower (f 11) 255
  let oc := within (f 12) 1 255
  let gf := within (f 13) 1 255
  ({ dSource := dSourceOf (f 0), table := ⟨f 1 % 4, Nat.mod_lt _ (by decide)⟩,
     interp := if f 2 = 1 then .step else .ramp,
     tripAction := if f 3 = 1 then .lowShort else .pulseBlock, angleOffset := BitVec.ofNat 16 (f 4),
     gI := f 5, window := window.1, pulses := pulses.1, width := width.1, deadtime := dead.1,
     cmin := cmin.1, blanking := blank.1, ocFilter := oc.1, gfFilter := gf.1 },
   window.2 || pulses.2 || width.2 || dead.2 || cmin.2 || blank.2 || oc.2 || gf.2)

/-- A channel with a new mode group: filter counts above the new filters are lowered to them, without an event
(R97, R108, R109). -/
def Channel.setMode (ch : Channel) (m : Mode) : Channel :=
  { ch with
    chc := { ch.chc with mode := m },
    tru := { ch.tru with oc := ch.tru.oc.map fun o => { o with count := min o.count m.ocFilter },
                         gfCount := min ch.tru.gfCount m.gfFilter } }

/-- The rule of SET_CHANNEL_MODE (R167). The effective timing values follow at once (R7). -/
def actSetChannelMode (o : Order) (s : State) : State × Taken :=
  onChannel o s fun c =>
    if s.cstate c ≠ .disabled then refuse s .wrongState
    else if modeFieldsOk o then
      let m := modeOf o
      ((s.modChan c (Channel.setMode · m.1)).settleGates c, .done (okOr m.2))
    else refuse s .badField

/-- SET_CHANNEL_MODE (R167). -/
def execSetChannelMode (o : Order) (s : State) : Answered :=
  s.takeOrder .setChannelMode o fun _ => actSetChannelMode o

/-- The follower that a SET_PAIR order names, if it may follow the leader (R169). -/
def followerOf (o : Order) (leader : Chan) : Option Chan :=
  if h : bodyField o 0 < 8 then
    let f : Chan := ⟨bodyField o 0, h⟩
    if f = leader ∨ f = 0 ∨ leader = 0 then none else some f
  else none

/-- The rule of SET_PAIR (R95, R142, R169). -/
def actSetPair (o : Order) (s : State) : State × Taken :=
  onChannel o s fun c =>
    match followerOf o c with
    | none => refuse s .badField
    | some f =>
      if s.cstate c ≠ .disabled ∨ s.cstate f ≠ .disabled ∨ (s.pairOf c).isSome ∨ (s.pairOf f).isSome then
        refuse s .wrongState
      else if 3 ≤ s.chc.pairs.length then refuse s .noRoom
      else
        let share := lower (bodyField o 1) 32768
        let t := s.modChan f fun ch => { ch with exc := { ch.exc with miss := 0 } }
        ({ t with chc := { t.chc with pairs := t.chc.pairs ++ [⟨c, f, share.1⟩] } }, .done (okOr share.2))

/-- SET_PAIR (R169). -/
def execSetPair (o : Order) (s : State) : Answered := s.takeOrder .setPair o fun _ => actSetPair o

/-- An interpolation held at the value it has reached (R95). -/
def Channel.holdQ (ch : Channel) : Channel :=
  let q := ch.exc.q
  { ch with exc := { ch.exc with q := { q with prev := ch.qDemand, target := ch.qDemand } } }

/-- The rule of CLEAR_PAIR (R95, R169). -/
def actClearPair (o : Order) (s : State) : State × Taken :=
  onChannel o s fun c =>
    match s.pairOf c with
    | none => refuse s .wrongState
    | some p =>
      if s.cstate p.leader = .disabled ∧ s.cstate p.follower = .disabled then
        let t := s.modChan p.follower Channel.holdQ
        ({ t with chc := { t.chc with pairs := t.chc.pairs.filter fun x => x != p } }, .done .ok)
      else refuse s .wrongState

/-- CLEAR_PAIR (R169). -/
def execClearPair (o : Order) (s : State) : Answered := s.takeOrder .clearPair o fun _ => actClearPair o

/-! ### CAPTURE and CANCEL (R74, R78, R174) -/

/-- The fields of a CAPTURE order are acceptable (R174). -/
def captureFieldsOk (o : Order) : Bool :=
  bodyField o 0 != 0 && decide (bodyField o 0 < 128) && bodyField o 2 != 0
    && decide (1 ≤ bodyField o 1) && decide (bodyField o 1 ≤ 256) && bodyWide o 3 % 4 == 0

/-- The context a CAPTURE order fills (R74). -/
def captureOf (o : Order) (c : Chan) (slot : Option Nat) : CapCtx :=
  { CapCtx.free with
    state := .active, tag := o.tag, chan := c, mask := BitVec.ofNat 7 (bodyField o 0),
    decim := bodyField o 1, count := bodyField o 2, addr := BitVec.ofNat 32 (bodyWide o 3), slot := slot }

/-- The context a CAPTURE fills (R74). DESIGN CHOICE: of two FREE contexts context 0 (log 51). -/
def State.freeContext (s : State) : Option Bool :=
  if s.lpe.cap0.state = .free then some false
  else if s.lpe.cap1.state = .free then some true
  else none

/-- The rule of CAPTURE (R74, R174). The capture of a TRIPPED channel ends at once. -/
def actCapture (o : Order) (slot : Option Nat) (s : State) : State × Taken :=
  onChannel o s fun c =>
    if !captureFieldsOk o then refuse s .badField
    else if s.exc.state = .quiescing then refuse s .quiesced
    else match s.freeContext with
      | none => refuse s .busy
      | some ctx =>
        let t := s.setCap ctx (captureOf o c slot)
        (if s.cstate c = .tripped then t.endCapture ctx .tripped else t, .inFlight .ok)

/-- CAPTURE (R174). -/
def execCapture (o : Order) (s : State) : Answered := s.takeOrder .capture o (actCapture o)

/-- The rule of CANCEL (R78, R174). -/
def actCancel (o : Order) (s : State) : State × Taken :=
  let tag := BitVec.ofNat 16 (bodyField o 0)
  if s.hasCapture tag then (s.cancelCaptures tag, .done .ok) else refuse s .noTarget

/-- CANCEL (R174). -/
def execCancel (o : Order) (s : State) : Answered := s.takeOrder .cancel o fun _ => actCancel o

/-! ### ORDER_UNKNOWN_KIND (R158, R159) -/

/-- ORDER_UNKNOWN_KIND: refused UNKNOWN_KIND at the take, whatever its other fields (R158, R159). -/
def execOrderUnknownKind (_o : Order) (s : State) : Answered :=
  s.live fun s =>
    match s.claimedFor none with
    | some x => (s.answerTake x (.done .unknownKind)).finish
    | none => s.finish

end Sys2Proof.Machine
end

