-- ==== Sys2Proof/Machine/Lifecycle.lean ====
section
/-! DEFINITION. The takes of the lifecycle orders START, RUN, STOP, DISABLE and RELEASE (R81, R82, R85, R86, R89, R92,
R94, R173). -/

namespace Sys2Proof.Machine

/-- The role comes first: an order addressed to a follower is refused WRONG_ROLE (R81). -/
def onLeader (o : Order) (s : State) (f : Chan → State × Taken) : State × Taken :=
  onChannel o s fun c => if s.isFollower c then refuse s .wrongRole else f c

/-- Every member of channel c's pair, or c alone, is in a state that satisfies p. -/
def State.membersAre (s : State) (c : Chan) (p : ChanState → Bool) : Bool :=
  (s.members c).all fun m => p (s.cstate m)

/-- The order in flight of channel c ends ABORTED, and its channels go to DISABLED (R85, R92). -/
def State.abortTo (s : State) (c : Chan) : State :=
  (s.endLife c .aborted).moveAll (s.members c) .disabled

/-- START with no order in flight (R82); a LOW_LEVEL input with action TRIP trips the channels at that event
(R111). -/
def beginStart (o : Order) (slot : Option Nat) (c : Chan) (s : State) : State × Taken :=
  if !s.membersAre c (· == .disabled) then refuse s .wrongState
  else if s.exc.state = .quiescing then refuse s .quiesced
  else if !s.pins.permit then refuse s .noPermit
  else if s.link.udc < s.dls.dc.uvRelease then refuse s .undervoltage
  else
    let cs := s.members c
    (((s.beginLife c ⟨.start, o.tag, slot⟩).moveAll cs .calibrating).lowLevelTrips Quad.all cs,
      .inFlight .ok)

/-- The rule of START (R81, R82). -/
def actStart (o : Order) (slot : Option Nat) (s : State) : State × Taken :=
  onLeader o s fun c =>
    match s.lifeOf c with
    | some _ => refuse s .busy
    | none => beginStart o slot c s

/-- START (R82, R173). -/
def execStart (o : Order) (s : State) : Answered := s.takeOrder .start o (actStart o)

/-- The rule of RUN (R81, R86). -/
def actRun (o : Order) (slot : Option Nat) (s : State) : State × Taken :=
  onLeader o s fun c =>
    match s.lifeOf c with
    | some _ => refuse s .busy
    | none =>
      if s.exc.state = .quiescing then refuse s .quiesced
      else if !s.membersAre c (· == .armed) then refuse s .wrongState
      else (s.beginLife c ⟨.run, o.tag, slot⟩, .inFlight .ok)

/-- RUN (R86, R173). -/
def execRun (o : Order) (s : State) : Answered := s.takeOrder .run o (actRun o)

/-- STOP with no order in flight (R88, R89). -/
def beginStop (o : Order) (slot : Option Nat) (c : Chan) (s : State) : State × Taken :=
  if s.cstate c = .running then
    ((s.members c).foldl (State.rampFrom · .stop ·) (s.beginLife c ⟨.stop, o.tag, slot⟩), .inFlight .ok)
  else refuse s .wrongState

/-- The rule of STOP (R81, R85, R89). -/
def actStop (o : Order) (slot : Option Nat) (s : State) : State × Taken :=
  onLeader o s fun c =>
    match s.lifeOf c with
    | none => beginStop o slot c s
    | some l =>
      match l.kind with
      | .start => (s.abortTo c, .done .ok)
      | .run | .stop => refuse s .busy

/-- STOP (R89, R173). -/
def execStop (o : Order) (s : State) : Answered := s.takeOrder .stop o (actStop o)

/-- The states from which a DISABLE is taken (R92). -/
def ChanState.mayDisable : ChanState → Bool
  | .calibrating | .charging | .armed | .rampdown => true
  | .disabled | .running | .tripped => false

/-- The rule of DISABLE (R81, R85, R92). -/
def actDisable (o : Order) (s : State) : State × Taken :=
  onLeader o s fun c =>
    match s.lifeOf c with
    | none =>
      if s.membersAre c ChanState.mayDisable then (s.moveAll (s.members c) .disabled, .done .ok)
      else refuse s .wrongState
    | some l =>
      match l.kind with
      | .start | .stop => (s.abortTo c, .done .ok)
      | .run => refuse s .busy

/-- DISABLE (R92, R173). -/
def execDisable (o : Order) (s : State) : Answered := s.takeOrder .disable o fun _ => actDisable o

/-- An external input by its raw level is a cause present for channel c (R94, R111). -/
def Xt.presentFor (x : Xt) (c : Chan) : Bool :=
  x.set.proc == .lowLevel && x.set.action == .trip && x.set.route.getLsbD c.val && !x.raw

/-- A cause of a trip is present at the inputs of channel c (R94). -/
def State.causeAtInputs (s : State) (c : Chan) : Bool :=
  let t := (s.chan c).tru
  t.oc.a.active || t.oc.b.active || t.oc.c.active || t.gfLow
    || Quad.all.any fun i => (s.tru.xt.get i).presentFor c

/-- A cause of a trip is present for some of the channels, or for the part (R94). -/
def State.causePresent (s : State) (cs : List Chan) : Bool :=
  cs.any s.causeAtInputs || !s.pins.permit || decide (s.link.udc < s.dls.dc.uvRelease)
    || decide (s.dls.dc.ov ≤ s.link.udc)

/-- A released channel's trip record and history are cleared (R73, R94, R104). -/
def Channel.clearTrip (ch : Channel) : Channel :=
  { ch with
    tru := { ch.tru with cause := none, detail := 0, later := 0, action := .pulseBlock },
    lpe := { ch.lpe with hist := [], frozen := false } }

/-- The release of one channel (R94). -/
def State.releaseOne (s : State) (c : Chan) : State := (s.move c .disabled).modChan c Channel.clearTrip

/-- The rule of RELEASE (R81, R94). -/
def actRelease (o : Order) (s : State) : State × Taken :=
  onLeader o s fun c =>
    match s.lifeOf c with
    | some _ => refuse s .busy
    | none =>
      if !s.membersAre c (· == .tripped) then refuse s .wrongState
      else if s.causePresent (s.members c) then refuse s .causePresent
      else ((s.members c).foldl State.releaseOne s, .done .ok)

/-- RELEASE (R94, R173). -/
def execRelease (o : Order) (s : State) : Answered := s.takeOrder .release o fun _ => actRelease o

end Sys2Proof.Machine
end

