-- ==== Sys2Proof/WellFormed.lean ====
section
/-! DEFINITION. Which command terms stand for a command of the part. -/

namespace Sys2Proof

/-- An order's body as the walk reads it: no word for a body length of 0 or above 48 (R157), else as many
words as the length says unless the read failed. -/
def Order.wellFormed (o : Order) : Bool :=
  if o.length.toNat = 0 || 48 < o.length.toNat then o.body.isEmpty && o.bodyOk
  else !o.bodyOk || o.body.length == o.length.toNat

/-- The words a read hands over: as many as the sequence carries when it ended without a failure. -/
def readWords (out : PortOutcome) (words : List Word) (n : Nat) : Bool :=
  match out with
  | .ok | .parity => words.length == n
  | _ => decide (words.length ≤ n)

/-- The number of words a sheet fetch carries: 4, and on to the header's length when that lies in 5..128
(R134). -/
def sheetWordCount (words : List Word) : Nat :=
  let len := ((words.getD 1 0).toNat / 2 ^ 16) % 2 ^ 8
  if 5 ≤ len && len ≤ 128 then len else 4

/-- The four codes URGENT knows (R189). -/
def urgentKnown (code : Word) : Bool := code == 1 || code == 2 || code == 3 || code == 4

/-- The offsets of the window at which a write is taken: REGION_BASE, URGENT, NOTICE, NOTICE_ENABLE (R189). -/
def windowWritable (offset : Word) : Bool :=
  offset == 0x04 || offset == 0x08 || offset == 0x10 || offset == 0x14

/-- The command terms that stand for a command of the part. -/
def Instr.wellFormed : Instr → Bool
  | .urgentUnknownCode code => !urgentKnown code
  | .registerWriteIgnored offset _ => !windowWritable offset && offset.toNat % 4 == 0
  | .comparatorWindowEnd ticks => decide (ticks ≤ 8200)
  | .directoryReadEnd out ws => readWords out ws 4
  | .sheetFetchEnd out ws => readWords out ws (sheetWordCount ws)
  | .nextPointerReadEnd out ws => readWords out ws 1
  | .headerReadEnd out ws => readWords out ws 4
  | .bodyReadEnd out ws =>
    match out with
    | .ok | .parity => decide (1 ≤ ws.length) && decide (ws.length ≤ 48)
    | _ => decide (ws.length ≤ 48)
  | .setGains o | .setLimits o | .setChannelMode o | .loadFieldTable o | .setPair o | .clearPair o
  | .setCarrier o | .setDcLink o | .setTripInputs o | .start o | .run o | .stop o | .disable o
  | .release o | .capture o | .cancel o => o.wellFormed
  | .orderUnknownKind o => o.body.isEmpty
  | .hardwareReset | .hardwareResetRelease _ | .lockIndicated | .lockTimeout | .tickCountOverrun | .go
  | .quiesce | .fastStop | .softReset | .softResetRelease | .regionBaseWrite _ | .noticeWrite _
  | .noticeEnableWrite _ | .permitInactive | .permitActive | .servoBoundary | .fetchPoint
  | .carrierZero _ | .carrierPeak _ | .compareEdge _ _ _ | .deadtimeElapsed _ _ _ | .blankingEnd _
  | .chargePulseEnd _ | .conversionComplete _ _ _ | .jobComplete | .dcSample _ | .overcurrent _ _
  | .gateFault _ | .xtFilteredEdge _ | .busGrant | .grantWithdrawn | .sequenceSelect
  | .wordAnswer _ _ _ _ | .readyTimeout | .reportWriteEnd _ _ | .tripDumpEnd _ | .claimWriteEnd _
  | .answerWriteEnd _ _ | .doneWriteEnd _ _ | .captureWriteEnd _ _ | .referenceZero
  | .comparatorInputChange _ _ _ | .gateFaultInputChange _ _ | .xtInputChange _ _
  | .requestAfterRelease => true

end Sys2Proof
end

