-- ==== Sys2Proof/Machine/PortCmds.lean ====
section
/-! DEFINITION. The meanings of the memory-port events: the bus, the selection of sequences, the answers of the slave
(R177 to R184). -/

namespace Sys2Proof.Machine

/-- A change of MPT. -/
def State.modMpt (s : State) (f : Mpt → Mpt) : State := { s with mpt := f s.mpt }

/-- A suspended sequence goes on with the address clock of its next word (R178, R182). -/
def Seq.resume (x : Seq) : Seq := { x with suspended := false, dataClock := 0, addrNext := false }

/-- With the bus owned, the suspended sequence goes on, or the pending sequence of the highest priority begins
(R178, R179, R182). A bus taken for a sequence that has been withdrawn since is handled as at the end of a
sequence with none pending (log 30). -/
def State.takeBus (s : State) : State :=
  let t := s.modMpt fun m => { m with bus := .owning, edge := false }
  match s.mpt.seq with
  | some x => t.runSeq x.resume
  | none =>
    if s.mpt.anyPending then t.beginNext
    else s.modMpt fun m =>
      { m with bus := (busAfter s.crw.straps.parkEn s.pins.grant false).1, edge := false }

/-- BUS_GRANT: grant is present and busy is free; in REQUESTING the bus is taken and a sequence begins (R177,
R179). -/
def execBusGrant (s : State) : Answered :=
  let t : State := { s with pins := { s.pins with grant := true } }
  if s.crw.held then .next t
  else if s.mpt.bus = .requesting then t.takeBus.finish else .next t

/-- GRANT_WITHDRAWN: the running transfer or locked sequence goes on to its end, and MPT obeys at the next port clock
edge (R177 to R179). -/
def execGrantWithdrawn (s : State) : Answered :=
  .next { s with pins := { s.pins with grant := false } }

/-- MPT owns the bus or holds it parked, and no sequence is running. -/
def Mpt.holdsIdle (m : Mpt) : Bool := (m.bus == .owning || m.bus == .parked) && m.seq.isNone

/-- MPT selects at a port clock edge: it owns the bus and keeps it (R177), nothing runs and something is pending
(R179). -/
def State.canSelect (s : State) : Bool :=
  s.mpt.holdsIdle && s.mpt.anyPending && s.crw.straps.parkEn && s.pins.grant

/-- SEQUENCE_SELECT: the pending sequence of the highest-priority requester begins (R179). -/
def execSequenceSelect (s : State) : Answered :=
  s.live fun s => if s.canSelect then s.takeBus.finish else .next s

/-- A restart from the first word after a backoff (R182). -/
def Seq.restart (x : Seq) : Seq :=
  { x with addrs := if x.kind = .sheet then x.addrs.take 4 else x.addrs, next := 0, carried := [],
           parity := false, restarts := x.restarts + 1, suspended := true, dataClock := 0,
           addrNext := false }

/-- The sequence with its next word carried: a read word is taken with its parity (R183), and a sheet fetch sets its
remaining words from its header (R180). -/
def Seq.carry (x : Seq) (parityEn : Bool) (data : Word) (par : BitVec 4) : Seq :=
  let carried := if x.kind.reads then x.carried ++ [data] else x.carried
  let addrs := if x.kind = .sheet ∧ x.next = 3 then
      wordRun (x.addrs.getD 0 0) (sheetWordCount carried) else x.addrs
  { x with addrs := addrs, next := x.next + 1, carried := carried, dataClock := 0,
           parity := x.parity || (x.kind.reads && parityEn && laneParity data != par) }

/-- A word is complete (R180, R181, R183): the sequence ends after its last word, and after the last word of a
transfer the next one begins with an address clock. -/
def State.wordDone (s : State) (x : Seq) (data : Word) (par : BitVec 4) : State :=
  let y := x.carry s.crw.straps.parityEn data par
  if y.addrs.length ≤ y.next then (s.runSeq y).endSeq (if y.parity then .parity else .ok)
  else s.runSeq { y with addrNext := y.endsTransfer x.next }

/-- A backoff releases the bus at that clock and MPT requests again; the fifth fails the sequence instead, and the bus
is then handled as at the end of any sequence (R181, R182, log 43). -/
def State.backOff (s : State) (x : Seq) : State :=
  if x.restarts + 1 = 5 then s.endSeq .backoffLimit
  else (s.runSeq x.restart).modMpt fun m => { m with bus := .requesting }

/-- The sequence that has the bus. -/
def State.onBus (s : State) : Option Seq :=
  match s.mpt.seq with
  | some x => if s.mpt.bus = .owning ∧ x.suspended = false then some x else none
  | none => none

/-- WORD_ANSWER: sampled from data clock WAIT + 1 on, the answer completes the word, fails the sequence or backs it
off (R181). -/
def execWordAnswer (ready busErr : Bool) (data : Word) (par : BitVec 4) (s : State) : Answered :=
  s.live fun s =>
    match s.onBus with
    | none => .next s
    | some x =>
      if x.dataClock < s.crw.straps.wait.toNat + 1 then .next s
      else match ready, busErr with
        | true, false => (s.wordDone x data par).finish
        | false, true => (s.endSeq .busError).finish
        | true, true => (s.backOff x).finish
        | false, false => .next s

/-- READY_TIMEOUT: no answer has been sampled by data clock 256 (R181). -/
def execReadyTimeout (s : State) : Answered :=
  s.live fun s =>
    match s.onBus with
    | none => .next s
    | some _ => (s.endSeq .timeout).finish

/-- REQUEST_AFTER_RELEASE: one port clock after MPT has released the bus without parking, with another sequence
pending, it requests again (R177); with that one withdrawn since it stays RELEASED. -/
def execRequestAfterRelease (s : State) : Answered :=
  s.live fun s =>
    if s.mpt.bus = .released ∧ s.mpt.offClock = true then
      .next (s.modMpt fun m =>
        { m with offClock := false, bus := if m.anyPending then .requesting else .released })
    else .next s

/-! ### The port clock edge -/

/-- The sequence on the bus over a port clock edge (R178, R181): its next transfer begins with an address clock,
unless it is unlocked and grant has been withdrawn, which suspends it; in a transfer the next data clock begins. -/
def Mpt.clock (m : Mpt) (x : Seq) (grant : Bool) : Mpt :=
  if x.addrNext then
    if !grant && !x.kind.locked then
      { m with bus := .requesting, seq := some { x with suspended := true } }
    else { m with seq := some { x with addrNext := false } }
  else { m with seq := some { x with dataClock := x.dataClock + 1 } }

/-- A bus on which no sequence of the part runs, at a port clock edge (R177): one that is held is kept for the
selection or handled by the table, with the grant as it stands at the edge, so that a withdrawal undone before the
edge is none (log 38); in RELEASED, MPT requests for what is pending, unless the one port clock of request off is
still to pass. -/
def State.settleBus (s : State) : State :=
  if s.mpt.holdsIdle then
    if s.canSelect then s
    else s.modMpt fun m =>
      let (bus, off) := busAfter s.crw.straps.parkEn s.pins.grant m.anyPending
      { m with bus := bus, offClock := off }
  else if s.mpt.bus = .released && !s.mpt.offClock && s.mpt.anyPending then
    s.modMpt fun m => { m with bus := .requesting }
  else s

/-- What MPT does by itself at its port clock edge (R177 to R179, logs 30 and 38): the sequence on the bus goes on, or
the bus is handled. -/
def State.actAtEdge (s : State) : State :=
  let t := s.modMpt fun m => { m with edge := false }
  match t.onBus with
  | some x => t.modMpt fun m => m.clock x s.pins.grant
  | none => t.settleBus

/-- The event of the table that falls at a port clock edge (R177, R179): a selection, the request after the one port
clock of request off, or in REQUESTING with grant present the taking of the bus, if no other master asserts busy then
(a free value, log 23). -/
def State.edgeEvent (s : State) : Option Instr :=
  match s.mpt.bus with
  | .owning | .parked => if s.canSelect then some .sequenceSelect else none
  | .released => if s.mpt.offClock then some .requestAfterRelease else none
  | .requesting => if s.pins.grant && Config.busFree s.draws then some .busGrant else none

end Sys2Proof.Machine
end

