-- ==== Sys2Proof/Machine/Protect.lean ====
section
/-! DEFINITION. The meanings of the protection inputs and their filters (R107 to R111). -/

namespace Sys2Proof.Machine

/-- A change of one channel's TRU record. -/
def State.modTru (s : State) (c : Chan) (f : TruCh → TruCh) : State :=
  s.modChan c fun ch => { ch with tru := f ch.tru }

/-- BLANKING_END: the window closes, and the comparator inputs are filtered again (R107, R108). -/
def execBlankingEnd (c : Chan) (s : State) : Answered :=
  s.live fun s => .next (s.modTru c fun t => { t with blank := 0, blankDue := false })

/-- The level of an overcurrent comparator input; an inactive input has count 0 (R108). -/
def State.setComparator (s : State) (c : Chan) (phase : Leg) (active : Bool) : State :=
  s.modTru c fun t =>
    let o := t.oc.get phase
    let x := { o with active := active, count := if active then o.count else 0 }
    { t with oc := t.oc.set phase x }

/-- COMPARATOR_INPUT_CHANGE (R108). Under the reset input only the pin changes. -/
def execComparatorInputChange (c : Chan) (phase : Leg) (active : Bool) (s : State) : Answered :=
  .next (s.setComparator c phase active)

/-- An overcurrent filter at its event (R108). A count that has reached F in this tick stays as it is, also where
another event of the tick has returned it to 0; a commanded event stands for that count where the input can climb (log
1). -/
def OcIn.fire (blanked : Bool) (f : Nat) (o : OcIn) : OcIn :=
  { o with count := if o.due || blanked || !o.active then o.count else f, due := false }

/-- OVERCURRENT: the phase's filter count has reached F, and a trip event follows (R108, R104). -/
def execOvercurrent (c : Chan) (phase : Leg) (s : State) : Answered :=
  s.live fun s =>
    let t := s.modTru c fun x =>
      let o := (x.oc.get phase).fire (decide (0 < x.blank)) (s.chan c).chc.mode.ocFilter
      { x with oc := x.oc.set phase o }
    (t.tripEvent [c] .overcurrent (legCode phase)).finish

/-- The level of a gate-fault input; a high input has count 0 (R109). -/
def State.setGateFault (s : State) (c : Chan) (low : Bool) : State :=
  s.modTru c fun t => { t with gfLow := low, gfCount := if low then t.gfCount else 0 }

/-- GATE_FAULT_INPUT_CHANGE (R109). Under the reset input only the pin changes. -/
def execGateFaultInputChange (c : Chan) (low : Bool) (s : State) : Answered :=
  .next (s.setGateFault c low)

/-- A gate-fault filter at its event (R109), as `OcIn.fire` (log 1). -/
def TruCh.fireGateFault (g : Nat) (x : TruCh) : TruCh :=
  { x with gfCount := if x.gfDue || !x.gfLow then x.gfCount else g, gfDue := false }

/-- GATE_FAULT: the filter count has reached G, and a trip event follows (R109, R104). -/
def execGateFault (c : Chan) (s : State) : Answered :=
  s.live fun s =>
    let t := s.modTru c (TruCh.fireGateFault (s.chan c).chc.mode.gfFilter)
    (t.tripEvent [c] .gateFault 0).finish

/-- An external input replaced. -/
def State.setXt (s : State) (i : Quad) (x : Xt) : State :=
  { s with tru := { s.tru with xt := s.tru.xt.set i x } }

/-- An external input with a new raw level; a level equal to the filtered one returns the count to 0 (R110). -/
def Xt.input (x : Xt) (high : Bool) : Xt :=
  { x with raw := high, count := if high = x.level then 0 else x.count }

/-- XT_INPUT_CHANGE (R110). Under the reset input only the pin changes. -/
def execXtInputChange (i : Quad) (high : Bool) (s : State) : Answered :=
  .next (s.setXt i ((s.tru.xt.get i).input high))

/-- Whether a filtered edge to a level raises an input event (R110). -/
def XtProc.fires (p : XtProc) (level : Bool) : Bool :=
  match p with
  | .disabled => false
  | .rising => level
  | .falling | .lowLevel => !level

/-- XT_FILTERED_EDGE: the filtered level takes the raw level, and by the processing the input acts on the
channels it routes (R110, R111). No event while the two levels are equal. -/
def execXtFilteredEdge (i : Quad) (s : State) : Answered :=
  s.live fun s =>
    let x := s.tru.xt.get i
    if x.raw = x.level then .next s
    else
      let t := s.setXt i { x with level := x.raw, count := 0 }
      if x.set.proc.fires x.raw then
        match x.set.action with
        | .trip => (t.tripEvent (x.routed Chan.all) .external i.val).finish
        | .fastStop => (t.fastStopRequest (x.routed Chan.all)).finish
      else t.finish

end Sys2Proof.Machine
end

