-- ==== Sys2Proof/Machine/SeqEnds.lean ====
section
/-! DEFINITION. The meanings of the ends of sequences at their requesters (R76 to R78, R116, R127, R130, R135, R139 to
R141, R149, R154 to R158, R161, R162). -/

namespace Sys2Proof.Machine

/-- The pending sequence of this kind, if there is one, is withdrawn. -/
def Mpt.withdraw (m : Mpt) (kind : SeqKind) : Mpt :=
  match kind with
  | .directory => if m.pFetch = some none then { m with pFetch := none } else m
  | .sheet => if m.pFetch = some none then m else { m with pFetch := none }
  | .report final => if m.pReport.map Report.final = some final then { m with pReport := none } else m
  | .dump => { m with pDump := false }
  | .done _ => if m.pWalk = some .writeBack then { m with pWalk := none } else m
  | .pointer | .header | .claim | .body | .answer _ =>
    if m.pWalk = some .step then { m with pWalk := none } else m
  | .capture ctx => if m.pCapture = some ctx then { m with pCapture := none } else m

/-- An end that comes by command stands for a pending sequence: none of its kind has ended, and none runs (log 6). -/
def State.standsForPending (s : State) (kind : SeqKind) : Bool :=
  !s.mpt.ended.any (fun e => e.kind == kind) && s.mpt.seq.isNone

/-- The end of a sequence reaches its requester. Normally the port has handed it over already; an end that comes by
command before that ends the running sequence of that kind, or stands for the pending one (log 6). -/
def State.reachEnd (s : State) (kind : SeqKind) (out : PortOutcome) : State :=
  if s.mpt.ended.any (fun e => e.kind == kind) then s.takeEnd kind
  else match s.mpt.seq with
    | some x => if x.kind = kind then (s.endSeq out).takeEnd kind else s
    | none => s.modMpt fun m => m.withdraw kind

/-! ### DIRECTORY_READ_END (R127) -/

/-- A failed start: STOPPED, with REJECTED and its reason (R127). -/
def State.failStart (s : State) (r : Reason) : State :=
  ({ s with exc := { s.exc with state := .stopped } } : State).reject r

/-- A successful start (R127, R150, R156): RUNNING with the clamped directory, N and L pending at MOD; the first one
after a reset sets the walker position to the anchor and counts no sheet as accepted. -/
def State.succeedStart (s : State) (ws : List Word) : State :=
  let d := readDirectory ws
  let x := s.exc
  { s with
    mod := { s.mod with pendingNL := some (d.n, d.l) },
    exc := { x with
      state := .running, dir := d, firstGo := false,
      position := if x.firstGo then none else x.position,
      accepted := x.accepted && !x.firstGo,
      sinceGo := false, walkFails := 0, halted := false } }

/-- DIRECTORY_READ_END (R127). In another exchange state the end changes no exchange state (R131). -/
def execDirectoryReadEnd (out : PortOutcome) (ws : List Word) (s : State) : Answered :=
  s.live fun s =>
    let t := s.reachEnd .directory out
    let u : State := { t with exc := { t.exc with dirWanted := false } }
    if s.exc.state = .starting then
      if out ≠ .ok then (u.failStart .directoryRead).finish
      else if dirVersion ws ≠ 1 then (u.failStart .version).finish
      else (u.succeedStart ws).finish
    else t.finish

/-! ### SHEET_FETCH_END (R139 to R141) -/

/-- The fetch in hand has ended and is judged (R140, R141). -/
def State.endFetch (s : State) (out : PortOutcome) (ws : List Word) : State :=
  let t : State := { s with exc := { s.exc with fetch := none } }
  match s.judgeSheet out ws with
  | .inl count => t.countSheet count
  | .inr sheet => t.acceptSheet ws sheet

/-- SHEET_FETCH_END: a fetch whose boundary has passed is discarded (R139); otherwise the sheet is judged and, if it
is good, accepted (R140, R141). -/
def execSheetFetchEnd (out : PortOutcome) (ws : List Word) (s : State) : Answered :=
  s.live fun s =>
    let t := s.reachEnd .sheet out
    if s.exc.fetchDiscard then
      ({ t with exc := { t.exc with fetchDiscard := false } } : State).finish
    else if s.exc.fetch.isSome then (t.endFetch out ws).finish
    else t.finish

/-! ### REPORT_WRITE_END and TRIP_DUMP_END (R116, R130, R135, R149) -/

/-- A report is written, or counted as a failure (R135, R149). -/
def State.countReport (s : State) (out : PortOutcome) : State :=
  if out = .ok then s.raiseIf s.exc.dir.reportEnable .report
  else { s with exc := { s.exc with reportFails := satAdd 65535 s.exc.reportFails 1 } }

/-- The exchange enters QUIESCED (R130): a fetch in flight and a waiting sheet are dropped (R139, R141). -/
def State.enterQuiesced (s : State) : State :=
  let t := s.dropFetch
  ({ t with exc := { t.exc with
      state := .quiesced, sheet := none, sheetDue := false, ready := false, finalTaken := false } } :
    State).raise .quiesced

/-- REPORT_WRITE_END (R130, R135, R149). -/
def execReportWriteEnd (out : PortOutcome) (final : Bool) (s : State) : Answered :=
  s.live fun s =>
    let t := (s.reachEnd (.report final) out).countReport out
    if final = true ∧ t.exc.state = .quiescing then t.enterQuiesced.finish else t.finish

/-- The dump request that a sequence carries is done (R116). Its record has left the queue at the sequence's start; an
end that stands for a pending sequence takes it off here (log 6). -/
def State.endDump (s : State) (out : PortOutcome) : State :=
  let t := s.reachEnd .dump out
  if s.mpt.pDump && s.standsForPending .dump then
    { t with tru := { t.tru with dumps := t.tru.dumps.drop 1 } }
  else t

/-- TRIP_DUMP_END: the dump request is done, whatever the outcome (R116). -/
def execTripDumpEnd (out : PortOutcome) (s : State) : Answered :=
  s.live fun s => (s.endDump out).finish

/-! ### The walk (R154 to R158) -/

/-- A change of the walk under way. -/
def State.setWalk (s : State) (w : Option Walk) : State := { s with exc := { s.exc with walk := w } }

/-- A walk failure (R156): the walk ends, and the third failure halts the walker with PORT. -/
def State.walkFailure (s : State) : State :=
  let n := min 3 (s.exc.walkFails + 1)
  let t : State := { s with exc := { s.exc with walk := none, walkFails := n } }
  if n = 3 then ({ t with exc := { t.exc with halted := true } } : State).raise .port else t

/-- The walk failure count at a read of the walk that has succeeded with nothing to follow (R154, R155). -/
def State.clearWalkFails (s : State) : State := { s with exc := { s.exc with walkFails := 0 } }

/-- A next-pointer read that is a walk failure: it failed, or the pointer is not aligned (R156). -/
def badPointer (out : PortOutcome) (ptr : Word) : Bool := out != .ok || bits ptr 0 4 != 0

/-- What the outcome of a next-pointer read does to the walk failure count (R154, R156). -/
def State.countPointer (s : State) (out : PortOutcome) (ptr : Word) : State :=
  if badPointer out ptr then s.walkFailure else if ptr = 0 then s.clearWalkFails else s

/-- What the outcome of a header read does to the walk failure count (R155, R156). -/
def State.countHeader (s : State) (out : PortOutcome) : State :=
  if out = .ok then s.clearWalkFails else s.walkFailure

/-- The next pointer decides (R154). -/
def State.followPointer (s : State) (w : Walk) (out : PortOutcome) (ptr : Word) : State :=
  let t := s.countPointer out ptr
  if badPointer out ptr then t
  else if ptr = 0 then t.setWalk none
  else t.setWalk (some { w with stage := .header ptr, claimed := none })

/-- The port carries a sequence of this kind, or has ended one whose end is still to be taken. -/
def State.portHas (s : State) (kind : SeqKind) : Bool :=
  s.mpt.ended.any (fun e => e.kind == kind) || s.mpt.seq.any (fun x => x.kind == kind)

/-- NEXT_POINTER_READ_END (R154). The outcome of a read whose walk a clock failure has ended counts, and nothing else
of it does (R131, R156). -/
def execNextPointerReadEnd (out : PortOutcome) (ws : List Word) (s : State) : Answered :=
  s.live fun s =>
    let t := s.reachEnd .pointer out
    match s.exc.walk with
    | some w => if w.stage = .pointer then (t.followPointer w out (ws.getD 0 0)).finish else t.finish
    | none => if s.portHas .pointer then (t.countPointer out (ws.getD 0 0)).finish else t.finish

/-- The claim of a POSTED block (R152, R155, R160). -/
def State.claim (s : State) (w : Walk) (addr w0 w2 : Word) (slot : Option Nat) : State :=
  let t := match slot with
    | some i => s.setSlot i .reserved
    | none => s
  { t with exc := { t.exc with
      position := some addr,
      walk := some ⟨.claim, w.taken + 1, some ⟨addr, w0, w2, slot, [], true, none⟩⟩ } }

/-- A kind code needs an order slot (R159). -/
def kindNeedsSlot (code : Nat) : Bool :=
  match orderKind code with
  | some k => k.needsSlot
  | none => false

/-- The header decides (R155): a block not POSTED ends the walk, an order that needs a slot when none is available
is left POSTED, every other block is claimed. -/
def State.readHeader (s : State) (w : Walk) (addr : Word) (out : PortOutcome) (ws : List Word) : State :=
  let t := s.countHeader out
  if out ≠ .ok then t
  else
    let w0 := ws.getD 0 0
    let w2 := ws.getD 2 0
    if blockState w0 ≠ 1 then t.setWalk none
    else if kindNeedsSlot (blockKind w0) then
      match s.freeSlot with
      | some i => t.claim w addr w0 w2 (some i)
      | none => t.setWalk none
    else t.claim w addr w0 w2 none

/-- HEADER_READ_END (R155). The outcome of a read whose walk a clock failure has ended counts, and no block is claimed
(R131, R156). -/
def execHeaderReadEnd (out : PortOutcome) (ws : List Word) (s : State) : Answered :=
  s.live fun s =>
    let t := s.reachEnd .header out
    match s.exc.walk with
    | some w =>
      match w.stage with
      | .header a => (t.readHeader w a out ws).finish
      | .pointer | .claim | .body | .take | .answer => t.finish
    | none => if s.portHas .header then (t.countHeader out).finish else t.finish

/-- The step after a claim write: the body read of a known kind with 1 to 48 words, else the take (R157). -/
def Claimed.afterClaim (k : Claimed) : WalkStage :=
  let n := blockLength k.w2
  if (orderKind (blockKind k.w0)).isSome && decide (1 ≤ n) && decide (n ≤ 48) then .body else .take

/-- CLAIM_WRITE_END: whatever its outcome, the body read or the take follows (R157). -/
def execClaimWriteEnd (out : PortOutcome) (s : State) : Answered :=
  s.live fun s =>
    let t := s.reachEnd .claim out
    match s.exc.walk with
    | some ⟨.claim, n, some k⟩ => (t.setWalk (some ⟨k.afterClaim, n, some k⟩)).finish
    | some _ | none => t.finish

/-- BODY_READ_END: the order is taken next, with its body or with BODY_ERROR (R157). -/
def execBodyReadEnd (out : PortOutcome) (ws : List Word) (s : State) : Answered :=
  s.live fun s =>
    let t := s.reachEnd .body out
    match s.exc.walk with
    | some ⟨.body, n, some k⟩ =>
      (t.setWalk (some ⟨.take, n, some { k with body := ws, bodyOk := decide (out = .ok) }⟩)).finish
    | some _ | none => t.finish

/-- A slot that only the answer write kept is available again (R160). -/
def State.releaseAnswered (s : State) (slot : Option Nat) : State :=
  match slot with
  | none => s
  | some i =>
    if s.slot i = .writing ∧ s.exc.writeBack.all (fun d => d.slot != i) then s.setSlot i .free else s

/-- ANSWER_WRITE_END: the answer stands, its slot marked as at the write's start if the end stands for a pending write
(R160, R161, log 6); the walk goes on to the next pointer or ends with its fourth order (R153, R158); ORDER for a DONE
form with NOTIFY (R162). -/
def execAnswerWriteEnd (out : PortOutcome) (notify : Bool) (s : State) : Answered :=
  s.live fun s =>
    let t := (s.reachEnd (.answer notify) out).raiseIf notify .order
    match s.exc.walk with
    | some ⟨.answer, n, some k⟩ =>
      (((t.markAnswer k).releaseAnswered k.slot).setWalk (if n < 4 then some ⟨.pointer, n, none⟩ else none)).finish
    | some _ | none => t.finish

/-- DONE_WRITE_END: the entry leaves the list whatever the outcome and its slot is available (R160, R161); ORDER for
a block with NOTIFY (R162). -/
def execDoneWriteEnd (out : PortOutcome) (notify : Bool) (s : State) : Answered :=
  s.live fun s =>
    let t := (s.reachEnd (.done notify) out).raiseIf notify .order
    match s.exc.writeBack with
    | [] => t.finish
    | d :: rest =>
      (({ t with exc := { t.exc with writeBack := rest } } : State).setSlot d.slot .free).finish

/-! ### CAPTURE_WRITE_END (R76 to R78) -/

/-- The result of a capture that has written or dropped its last entry (R77). -/
def CapCtx.drained (k : CapCtx) : Result := if k.drops = 0 then .ok else .lossy k.drops

/-- The head entry of a context has been written or dropped (R76); a DRAINING context with nothing left and an
ENDING one end (R77, R78). -/
def State.captureWritten (s : State) (ctx : Bool) (out : PortOutcome) : State :=
  let k := s.cap ctx
  let k' := { k with fifo := k.fifo.drop 1, inFlight := false,
                     drops := if out = .ok then k.drops else satAdd 65535 k.drops 1 }
  let t := s.setCap ctx k'
  match k.state with
  | .draining => if k'.fifo.isEmpty then t.finishCapture ctx k'.drained else t
  | .ending => t.finishCapture ctx k.result
  | .active | .free => t

/-- CAPTURE_WRITE_END (R76 to R78). A context without a write in flight has none that ends. -/
def execCaptureWriteEnd (out : PortOutcome) (ctx : Bool) (s : State) : Answered :=
  s.live fun s =>
    let t := s.reachEnd (.capture ctx) out
    if (s.cap ctx).inFlight then (t.captureWritten ctx out).finish else t.finish

end Sys2Proof.Machine
end

