-- ==== Sys2Proof/Machine/Timebase.lean ====
section
/-! DEFINITION. The meanings of the timebase events: reference zeros, fetch points, servo boundaries, carrier
zeros and carrier peaks (R2 to R6, R9, R11, R15, R20 to R22, R40, R87, R99, R138 to R149). -/

namespace Sys2Proof.Machine

/-! ### The application of a boundary's record at a channel zero (R143 to R146) -/

/-- The states in which A is advanced and an entry's angle is taken (R11, R143). -/
def ChanState.tracksAngle : ChanState → Bool
  | .armed | .running | .rampdown => true
  | .disabled | .calibrating | .charging | .tripped => false

/-- The new angle of an entry: its angle plus the channel's angle offset (R144). -/
def Channel.newAngle (ch : Channel) (e : Entry) : Half := e.angle + ch.chc.mode.angleOffset

/-- The extrapolated angle of the jump check; `advanced` says that A has been advanced at this zero (R144). -/
def Channel.extrapolated (ch : Channel) (advanced : Bool) : Nat :=
  hiAngle (if advanced then ch.lpe.angle else ch.lpe.angle + ch.lpe.w)

/-- The jump check finds a jump beyond the channel's limit (R144). -/
def Channel.jumps (ch : Channel) (advanced : Bool) (e : Entry) : Bool :=
  ch.exc.angleValid &&
    decide (ch.chc.limits.jumpLimit
      < (ch.newAngle e - BitVec.ofNat 16 (ch.extrapolated advanced)).toInt.natAbs)

/-- The interpolation and held fields of a channel at the application of its record, k being the period index
in force before the zero and n the N in force (R145, R146). The record is then empty. -/
def Channel.applyDemand (ch : Channel) (k n : Nat) : Channel :=
  let m := ch.chc.mode.interp
  match ch.exc.app with
  | .empty => ch
  | .hold =>
    { ch with exc := { ch.exc with app := .empty, q := ch.exc.q.apply m k n none,
                                   d := ch.exc.d.apply m k n none } }
  | .entry e =>
    let ff := e.ff.getD (ch.exc.vdFf, ch.exc.vqFf)
    { ch with exc := { ch.exc with
        app := .empty, q := ch.exc.q.apply m k n (some e.iq), d := ch.exc.d.apply m k n e.d,
        vdFf := ff.1, vqFf := ff.2, ls := e.ls.orElse fun _ => ch.exc.ls,
        offset := e.offset.getD ch.exc.offset } }

/-- The angle part of an entry application: A and w are taken and the angle-valid mark is set (R144). -/
def Channel.applyAngle (ch : Channel) (e : Entry) : Channel :=
  { ch with lpe := { ch.lpe with angle := (ch.newAngle e).zeroExtend 32 <<< 16, w := e.w },
            exc := { ch.exc with angleValid := true } }

/-- The application of channel c's record at its zero (R143). -/
def State.applyRecord (s : State) (c : Chan) (advanced : Bool) (k : Nat) : State :=
  let ch := s.chan c
  let t := s.setChan c (ch.applyDemand k s.mod.n)
  match ch.exc.app with
  | .empty | .hold => t
  | .entry e =>
    if ch.chc.state.tracksAngle then
      let u := t.modChan c (Channel.applyAngle · e)
      if ch.jumps advanced e then
        let v := u.countSheet fun k => { k with jumps := satAdd 65535 k.jumps 1 }
        if ch.chc.limits.guard = .strict then v.tripEvent [c] .angleJump 0 else v
      else u
    else t

/-- The record waiting for a channel's zero is an entry. -/
def AppRec.isEntry : AppRec → Bool
  | .entry _ => true
  | .empty | .hold => false

/-! ### CARRIER_ZERO -/

/-- The compares at a zero: a MODULATOR channel loads a fresh shadow (R9). -/
def Channel.loadShadow (ch : Channel) : Channel :=
  if ch.source = .modulator then
    match ch.mod.shadow with
    | some x => { ch with mod := { ch.mod with shadow := none, active := x } }
    | none => ch
  else ch

/-- The no-job count at a zero, before the compares: a period counts that ends for a MODULATOR channel with an empty
shadow (R9, R71), or that belongs to a SOFT_OC job (`softOc`), whatever the channel's state (R40, log 54). It counts
once. -/
def Channel.countNoJob (softOc : Bool) (ch : Channel) : Channel :=
  let counts := softOc || (ch.source == .modulator && ch.mod.shadow.isNone)
  { ch with lpe := { ch.lpe with
      noJobDue := false,
      stats := { ch.lpe.stats with noJob := ch.lpe.stats.noJob + if counts then 1 else 0 } } }

/-- A charge pulse starts at a zero while pulses remain (R15). -/
def Channel.startPulse (p : Nat) (ch : Channel) : Channel :=
  if ch.source = .charge && decide (0 < ch.mod.pulses) then
    { ch with mod := { ch.mod with pulse := some (effWidth ch.chc.mode p) } }
  else ch

/-- The counts of a zero: the period count, and the period index, 0 at the first zero of a cycle and held at
N - 1 (R5); zeros before the first boundary count it on from its reset value (log 44). `atZero` says that the carrier
stands at its zero in this tick. -/
def Channel.countZero (n : Nat) (atZero : Bool) (ch : Channel) : Channel :=
  { ch with mod := { ch.mod with
      periodCount := ch.mod.periodCount + 1, indexBefore := ch.mod.index,
      index := if ch.mod.newCycle then 0 else if ch.mod.index + 1 < n then ch.mod.index + 1 else n - 1,
      newCycle := false, zeroDue := false, zeroTaken := atZero } }

/-- The angle advance of a zero (R11), unless an entry takes its place there. -/
def Channel.advanceAngle (ch : Channel) : Channel :=
  if ch.chc.state.tracksAngle && !ch.exc.app.isEntry then
    { ch with lpe := { ch.lpe with angle := ch.lpe.angle + ch.lpe.w } }
  else ch

/-- All of a channel's own state at its carrier zero, but for its application record. -/
def Channel.zero (permit : Bool) (p n : Nat) (atZero softOc : Bool) (ch : Channel) : Channel :=
  Channel.advanceAngle (Channel.rewant permit p 0 (Channel.countZero n atZero
    (Channel.startPulse p (ch.countNoJob softOc).loadShadow)))

/-- CARRIER_ZERO (R4, R5, R9, R11, R15, R40, R67, R143). No event while the carriers are stopped (R1). -/
def execCarrierZero (c : Chan) (s : State) : Answered :=
  s.live fun s =>
    if s.mod.running then
      let k := (s.chan c).mod.index
      let atZero := decide (s.count c = 0)
      (((s.passDeadline c).modChan c (Channel.zero s.pins.permit s.mod.p s.mod.n atZero
        (s.softOcPeriod c))).applyRecord c false k).finish
    else .next s

/-! ### CARRIER_PEAK -/

/-- The converter that serves a channel (R20). -/
def converterOf (c : Chan) : Quad := ⟨c.val % 4, Nat.mod_lt _ (by decide)⟩

/-- A trigger reaches its converter (R20, R21): an idle one starts, another channel's conversion makes it wait;
a trigger whose own channel is converted or waits is dropped. -/
def Converter.trigger (k : Converter) (c : Chan) (periodCount : Word) : Converter :=
  match k.busy with
  | none => { k with busy := some ⟨c, 0, 100, periodCount, false, false⟩ }
  | some x =>
    if x.chan = c then k
    else match k.waiting with
      | none => { k with waiting := some ⟨c, 0, periodCount, false⟩ }
      | some _ => k

/-- CARRIER_PEAK: every channel but a DISABLED one triggers its converter (R4, R20). -/
def execCarrierPeak (c : Chan) (s : State) : Answered :=
  s.live fun s =>
    if s.mod.running then
      let t := s.modChan c fun ch => { ch with mod := { ch.mod with peakDue := false } }
      if s.cstate c = .disabled then t.finish
      else
        let i := converterOf c
        ({ t with conv := t.conv.set i ((t.conv.get i).trigger c (s.chan c).mod.periodCount) } :
          State).finish
    else .next s

/-! ### REFERENCE_ZERO and FETCH_POINT -/

/-- REFERENCE_ZERO: the servo position advances by one (R2). The reference zero at which it would reach N is a
servo boundary and not this command. -/
def execReferenceZero (s : State) : Answered :=
  s.live fun s =>
    if s.mod.running && decide (s.mod.j + 1 < s.mod.n) then
      .next { s with mod := { s.mod with j := s.mod.j + 1, refDue := false } }
    else .next s

/-- Boundaries fill the application records while RUNNING or QUIESCING (R128, R142), also after the final report has
been taken, with hold then (log 47). -/
def Exc.applies (x : Exc) : Bool := x.state == .running || x.state == .quiescing

/-- Sheets are fetched and reports written while RUNNING or QUIESCING, until the final report has been taken (R128,
R130, R138, R149). -/
def Exc.cyclic (x : Exc) : Bool := x.applies && !x.finalTaken

/-- The slot a fetch reads (R138). -/
def Exc.fetchSlot (x : Exc) : Nat := if x.sinceGo then (x.lastStamp + 1).toNat % 4 else 0

/-- FETCH_POINT: the servo position is N - L (R2), and the fetch of the sheet for the next boundary is requested
(R138). -/
def execFetchPoint (s : State) : Answered :=
  s.live fun s =>
    if s.mod.running then
      let t : State :=
        { s with mod := { s.mod with j := s.mod.n - s.mod.l, refDue := false, fetchDue := false } }
      if t.exc.cyclic then
        let u := t.dropFetch
        ({ u with exc := { u.exc with
            fetch := some ⟨u.exc.fetchSlot, false⟩, sheetDue := true } } : State).finish
      else t.finish
    else .next s

/-! ### SERVO_BOUNDARY: MOD's part -/

/-- The reference zero at which j reaches N: S is counted under the old N, and the pending pair comes into
force; a fetch point at the same zero is judged with the new L (R2, R3). -/
def State.countBoundary (s : State) : State :=
  let nl := s.mod.pendingNL.getD (s.mod.n, s.mod.l)
  { s with mod := { s.mod with
      j := 0, s := s.mod.s + 1, n := nl.1, l := nl.2, pendingNL := none, refDue := false,
      fetchDue := decide (nl.1 = nl.2) } }

/-- The carrier restart of a swapped record (R6). The marks of the tick are those of the new carriers. -/
def State.restartCarriers (s : State) (x : CarrierRec) : State :=
  let t := Chan.all.foldl State.passDeadline s
  let u : State :=
    { t with
      mod := { t.mod with p := x.p, tauRef := 0 },
      ch := Bank8.ofFn fun c =>
        let ch := t.chan c
        { ch with mod := { ch.mod with
            offset := x.offsets.get c, shadow := none, active := neutralSet x.p } } }
  (Chan.all.foldl State.settleGates u).markCarriers

/-! ### SERVO_BOUNDARY: CHC's part (R87, R99) -/

/-- The staged gains and limits of channel c come into force (R99). -/
def State.swapChannel (s : State) (c : Chan) : State :=
  let k := (s.chan c).chc
  let t := s.modChan c fun ch =>
    { ch with chc := { ch.chc with
        gains := (ch.chc.stGains.map Staged.value).getD ch.chc.gains,
        limits := (ch.chc.stLimits.map Staged.value).getD ch.chc.limits,
        stGains := none, stLimits := none } }
  (t.completeAll ((k.stGains.map Staged.slots).getD [])).completeAll
    ((k.stLimits.map Staged.slots).getD [])

/-- A staged field table becomes the active copy (R99). -/
def State.swapTable (s : State) (i : Quad) : State :=
  let k := s.chc.tables.get i
  match k.staged with
  | none => s
  | some x =>
    ({ s with chc := { s.chc with tables := s.chc.tables.set i ⟨x.value, none⟩ } } : State).completeAll
      x.slots

/-- A staged carrier record restarts the carriers (R6, R99). -/
def State.swapCarrier (s : State) : State :=
  match s.chc.stCarrier with
  | none => s
  | some x =>
    (({ s with chc := { s.chc with stCarrier := none } } : State).restartCarriers x.value).completeAll
      x.slots

/-- A staged DC-link record comes into force (R99, R117). -/
def State.swapDcLink (s : State) : State :=
  match s.chc.stDcLink with
  | none => s
  | some x =>
    ({ s with chc := { s.chc with stDcLink := none }, dls := s.dls.withRecord x.value } :
      State).completeAll x.slots

/-- An input under its new settings: a count above the new filter is lowered to it, and one then equal to the
filter takes the raw level without an edge (R112). -/
def Xt.withSet (x : Xt) (k : XtSet) : Xt :=
  if k.filter ≤ x.count then { x with set := k, level := x.raw, count := 0 } else { x with set := k }

/-- The inputs that a swap has made LOW_LEVEL with action TRIP, or whose route it has extended (R111, R112). -/
def Xt.newlyLow (old new : XtSet) : Bool :=
  new.proc == .lowLevel && new.action == .trip
    && (!(old.proc == .lowLevel && old.action == .trip) || (new.route &&& ~~~old.route) != 0)

/-- A staged trip-input record replaces the settings of all four inputs (R99, R112). DESIGN CHOICE, unsafe: the
lifecycle orders and captures that its trips end (R111) complete before the SET_TRIP_INPUTS orders of the swap (log
27). -/
def State.swapXt (s : State) : State :=
  match s.chc.stXt with
  | none => s
  | some x =>
    let old := s.tru.xt
    let t : State :=
      { s with chc := { s.chc with stXt := none },
               tru := { s.tru with xt :=
                 ⟨old.n0.withSet x.value.n0, old.n1.withSet x.value.n1,
                  old.n2.withSet x.value.n2, old.n3.withSet x.value.n3⟩ } }
    let acting := Quad.all.filter fun i => Xt.newlyLow (old.get i).set (x.value.get i)
    (t.lowLevelTrips acting Chan.all).completeAll x.slots

/-- The interpolation of a channel at its RUN entry (R87). `applied` is the entry whose application at this
boundary has come before; without one the targets are 0. -/
def Channel.runInterp (applied : Option Entry) (ch : Channel) : Channel :=
  let q := (applied.map Entry.iq).getD 0
  let d := (applied.bind Entry.d).getD 0
  { ch with exc := { ch.exc with q := { ch.exc.q with prev := 0, target := q },
                                 d := { ch.exc.d with prev := 0, target := d } } }

/-- Channel m's interpolation at its RUN entry (R87). -/
def State.beginInterp (applied : Chan → Option Entry) (s : State) (m : Chan) : State :=
  s.modChan m (Channel.runInterp (applied m))

/-- The RUN in flight of channel c, or of the pair it leads, ends OK with its channels RUNNING (R87); a LOW_LEVEL
input with action FAST_STOP acts on them (R111). -/
def State.enterRun (applied : Chan → Option Entry) (s : State) (c : Chan) : State :=
  match (s.chan c).chc.life with
  | none => s
  | some l =>
    if l.kind = .run then
      let cs := s.members c
      let t := (s.endLife c .ok).moveAll cs .running
      (cs.foldl (State.beginInterp applied) t).lowLevelStops cs
    else s

/-- CHC's part of a servo boundary: every staged record is swapped into force, and every RUN in flight enters (R87,
R99). The swaps, the trips of a trip-input swap among them, come before the entries, so that such a trip ends a RUN
TRIPPED and an input made LOW_LEVEL with action FAST_STOP acts at the entry (log 40); the completions of the swaps and
entries join the write-back list in this order (log 27). -/
def State.chcBoundary (applied : Chan → Option Entry) (s : State) : State :=
  let t := Quad.all.foldl State.swapTable (Chan.all.foldl State.swapChannel s)
  Chan.all.foldl (State.enterRun applied) t.swapCarrier.swapDcLink.swapXt

/-! ### SERVO_BOUNDARY: EXC's part (R142, R148, R153) -/

/-- The miss count of a channel after a boundary with a sheet due (R142). -/
def State.missAfter (s : State) (c : Chan) : Nat :=
  let old := (s.chan c).exc.miss
  if s.isFollower c then 0
  else if s.exc.dir.mask.getLsbD c.val then
    if (s.newEntry c).isSome then 0 else satAdd 255 old 1
  else old

/-- The application record a boundary fills (R142). -/
def State.appRecord (s : State) (c : Chan) : AppRec :=
  match s.newEntry c with
  | some e => .entry e
  | none => .hold

/-- The application records are filled and the misses counted; the waiting sheet is consumed (R142). -/
def State.settleEntries (s : State) : State :=
  { s with
    exc := { s.exc with sheet := none, sheetDue := false },
    ch := Bank8.ofFn fun c =>
      let ch := s.chan c
      { ch with exc := { ch.exc with
          app := s.appRecord c, miss := if s.exc.sheetDue then s.missAfter c else ch.exc.miss } } }

/-- The channels in the in-service mask whose miss count is K or more (R142). -/
def State.lostDemand (s : State) : List Chan :=
  Chan.all.filter fun c =>
    s.exc.dir.mask.getLsbD c.val && decide (s.exc.dir.k ≤ (s.chan c).exc.miss)

/-- Demand losses move RUNNING channels, a leader's both members, to RAMPDOWN (R91, R142). -/
def State.demandLosses (s : State) : State :=
  s.lostDemand.foldl (fun t c => (t.members c).foldl (State.rampFrom · .demandLoss ·) t) s

/-- Some channel's miss count becomes exactly K at this boundary (R142). -/
def State.reachesK (s : State) : Bool :=
  Chan.all.any fun c => s.missAfter c == s.exc.dir.k && (s.chan c).exc.miss != s.exc.dir.k

/-- The entries, misses and demand losses of a boundary (R142). -/
def State.excEntries (s : State) : State :=
  let t := s.settleEntries
  if s.exc.sheetDue then t.demandLosses.raiseIf s.reachesK .demand else t

/-- The application that belongs to a zero of this tick already taken (R5, R143). -/
def State.applyTaken (s : State) (c : Chan) : State :=
  (s.modChan c fun ch => { ch with mod := { ch.mod with index := 0 } }).applyRecord c true
    (s.chan c).mod.indexBefore

/-- A walk starts (R153). -/
def State.startWalk (s : State) : State :=
  if s.exc.state = .running && !s.exc.halted && s.exc.walk.isNone then
    { s with exc := { s.exc with walk := some ⟨.pointer, 0, none⟩ } }
  else s

/-- The statistics of the cycle that ends have been handed to EXC: every channel's start anew, and so does the cycle
sum of udc (R30, R71). -/
def State.handStatistics (s : State) : State :=
  { s with
    link := { s.link with cycSum := 0, cycCount := 0 },
    ch := s.ch.map fun ch => { ch with lpe := { ch.lpe with stats := Stats.clear } } }

/-- EXC's part of a servo boundary (R71, R142, R143, R148, R153). `taken` are the channels whose zero of this tick
has been taken, `final` says that the exchange was ready to close (R130). The applications that belong to the zeros
taken are made after the demand losses, by channel from 0, and the report snapshot comes after both, so that it shows
the channels that they move, their causes, and the ANGLE_JUMP counts and trips of this boundary (log 41). -/
def State.excBoundary (taken : List Chan) (final : Bool) (s : State) : State :=
  let t := if s.exc.applies then taken.foldl State.applyTaken s.excEntries else s
  let u := if s.exc.cyclic then t.snapshot final else t
  u.handStatistics.startWalk

/-! ### SERVO_BOUNDARY -/

/-- A fetch still in flight at its boundary: the sheet is missing with cause LATE_FETCH (R139). -/
def State.lateFetch (s : State) : State :=
  if s.exc.fetch.isSome then
    (s.dropFetch).countSheet fun k => { k with lateFetch := satAdd 65535 k.lateFetch 1 }
  else s

/-- The channels whose carrier zero of this tick has been taken before the boundary; not those of carriers that
are about to be restarted (R5, R6). -/
def State.takenZeros (s : State) : List Chan :=
  if s.chc.stCarrier.isSome then [] else Chan.all.filter fun c => (s.chan c).mod.zeroTaken

/-- What every boundary does when the blocks have acted: each channel's next zero begins the new cycle, unless it
has been taken in this tick (R5). -/
def State.newCycles (taken : List Chan) (s : State) : State :=
  { s with ch := Bank8.ofFn fun c =>
      let ch := s.chan c
      { ch with mod := if taken.contains c then { ch.mod with index := 0, newCycle := false }
                       else { ch.mod with newCycle := true } } }

/-- A servo boundary with CHC's part first or EXC's part first (R87, R99, R142, R148: either order). -/
def State.boundary (chcFirst : Bool) (s : State) : State :=
  let final := s.exc.state == .quiescing && s.exc.ready
  let taken := s.takenZeros
  let t := s.countBoundary.lateFetch
  let u := if chcFirst then (t.chcBoundary fun _ => none).excBoundary taken final
    else
      let brought := fun c => if taken.contains c && t.exc.applies then t.newEntry c else none
      (t.excBoundary taken final).pumpWalk.chcBoundary brought
  u.newCycles taken

/-- SERVO_BOUNDARY (R2): which of CHC and EXC acts first is free (log 9). No event while the carriers are
stopped (R1). -/
def execServoBoundary (s : State) : Answered :=
  s.live fun s =>
    if s.mod.running then
      (({ s with draws := s.draws + 1 } : State).boundary (Config.chcFirst s.draws)).finish
    else .next s

end Sys2Proof.Machine
end

