-- ==== Sys2Proof/Machine/Window.lean ====
section
/-! DEFINITION. The meanings of the writes to the register window (R100, R126, R129, R189 to R191). -/

namespace Sys2Proof.Machine

/-- The command that a write to a word offset of the slave window is (R189, R190). -/
def writeCommand (offset data : Word) : Instr :=
  if offset = 0x04 then .regionBaseWrite data
  else if offset = 0x08 then
    if data = 1 then .go
    else if data = 2 then .quiesce
    else if data = 3 then .fastStop
    else if data = 4 then .softReset
    else .urgentUnknownCode data
  else if offset = 0x10 then .noticeWrite data
  else if offset = 0x14 then .noticeEnableWrite data
  else .registerWriteIgnored offset data

/-- GO is taken: STARTING, and the directory read is requested; trip dumps not yet begun wait (R126, R128). -/
def State.takeGo (s : State) : State :=
  { s with exc := { s.exc with state := .starting, dirWanted := true }, mpt := { s.mpt with pDump := false } }

/-- GO: taken in STOPPED with the clock VALID and in QUIESCED, else rejected with GO_STATE (R126). -/
def execGo (s : State) : Answered :=
  s.window fun s =>
    if (s.exc.state = .stopped ∧ s.crw.clock = .valid) ∨ s.exc.state = .quiesced then s.takeGo.finish
    else .next (s.reject .goState)

/-- The channel side of the entry into QUIESCING, for the lifecycle orders in flight: a START ends ABORTED with
its channels DISABLED, a RUN ends ABORTED, a STOP goes on (R101). -/
def State.quiesceLife (s : State) (c : Chan) : State :=
  match (s.chan c).chc.life with
  | none => s
  | some l =>
    match l.kind with
    | .start => ((s.endLife c .aborted).moveAll (s.members c) .disabled)
    | .run => s.endLife c .aborted
    | .stop => s

/-- The entry into QUIESCING (R78, R101, R129, R130). The lifecycle orders it ends complete by channel from 0, then
the captures, context 0 before 1 (log 27). -/
def State.enterQuiescing (s : State) : State :=
  let t : State :=
    { s with exc := { s.exc with state := .quiescing, ready := false, finalTaken := false } }
  let u := Chan.all.foldl State.quiesceLife t
  let v := Chan.all.foldl (State.rampFrom · .quiesce ·) u
  (v.endCapture false .aborted).endCapture true .aborted

/-- QUIESCE: taken in RUNNING, without effect in QUIESCING, else rejected with QUIESCE_STATE (R129). -/
def execQuiesce (s : State) : Answered :=
  s.window fun s =>
    match s.exc.state with
    | .running => s.enterQuiescing.finish
    | .quiescing => .next s
    | .stopped | .starting | .quiesced => .next (s.reject .quiesceState)

/-- FAST_STOP: one fast stop request to all eight channels, in every exchange and clock state (R100, R190). -/
def execFastStop (s : State) : Answered :=
  s.window fun s => (s.fastStopRequest Chan.all).finish

/-- URGENT_UNKNOWN_CODE: REJECTED with reason UNKNOWN_CODE and nothing else (R190). A known code is not this
command. -/
def execUrgentUnknownCode (code : Word) (s : State) : Answered :=
  if code = 1 ∨ code = 2 ∨ code = 3 ∨ code = 4 then .fault .notACommand
  else s.window fun s => .next (s.reject .unknownCode)

/-- REGION_BASE_WRITE: the base is replaced in STOPPED and QUIESCED, else the write is rejected with BASE_STATE
(R190). -/
def execRegionBaseWrite (data : Word) (s : State) : Answered :=
  s.window fun s =>
    match s.exc.state with
    | .stopped | .quiesced => .next { s with crw := { s.crw with base := data &&& 0xFFFFC000 } }
    | .starting | .running | .quiescing => .next (s.reject .baseState)

/-- NOTICE_WRITE: every bit written as 0 is cleared (R191). -/
def execNoticeWrite (data : Word) (s : State) : Answered :=
  s.window fun s =>
    .next { s with crw := { s.crw with notice := s.crw.notice &&& data.setWidth 8 } }

/-- NOTICE_ENABLE_WRITE: all eight enable bits are replaced (R191). -/
def execNoticeEnableWrite (data : Word) (s : State) : Answered :=
  s.window fun s => .next { s with crw := { s.crw with enable := data.setWidth 8 } }

/-- REGISTER_WRITE_IGNORED: a write to IDENT, STATE or an unassigned offset changes nothing (R189). A write to
one of the four writable registers is not this command. -/
def execRegisterWriteIgnored (offset _data : Word) (s : State) : Answered :=
  if offset = 0x04 ∨ offset = 0x08 ∨ offset = 0x10 ∨ offset = 0x14 then .fault .notACommand else .next s

end Sys2Proof.Machine
end

