-- ==== Sys2Proof/Machine/Dispatch.lean ====
section
/-! DEFINITION. One arm per command: the call of its meaning. -/

namespace Sys2Proof.Machine

/-- A command's effect on everything but the queue. -/
def exec (i : Instr) (s : State) : Host.Outcome State Fault Refusal :=
  match i with
  | .hardwareReset => Sys2Proof.Machine.execHardwareReset s
  | .hardwareResetRelease straps => Sys2Proof.Machine.execHardwareResetRelease straps s
  | .lockIndicated => Sys2Proof.Machine.execLockIndicated s
  | .lockTimeout => Sys2Proof.Machine.execLockTimeout s
  | .tickCountOverrun => Sys2Proof.Machine.execTickCountOverrun s
  | .comparatorWindowEnd ticks => Sys2Proof.Machine.execComparatorWindowEnd ticks s
  | .go => Sys2Proof.Machine.execGo s
  | .quiesce => Sys2Proof.Machine.execQuiesce s
  | .fastStop => Sys2Proof.Machine.execFastStop s
  | .softReset => Sys2Proof.Machine.execSoftReset s
  | .softResetRelease => Sys2Proof.Machine.execSoftResetRelease s
  | .urgentUnknownCode code => Sys2Proof.Machine.execUrgentUnknownCode code s
  | .regionBaseWrite data => Sys2Proof.Machine.execRegionBaseWrite data s
  | .noticeWrite data => Sys2Proof.Machine.execNoticeWrite data s
  | .noticeEnableWrite data => Sys2Proof.Machine.execNoticeEnableWrite data s
  | .registerWriteIgnored offset data => Sys2Proof.Machine.execRegisterWriteIgnored offset data s
  | .permitInactive => Sys2Proof.Machine.execPermitInactive s
  | .permitActive => Sys2Proof.Machine.execPermitActive s
  | .servoBoundary => Sys2Proof.Machine.execServoBoundary s
  | .fetchPoint => Sys2Proof.Machine.execFetchPoint s
  | .carrierZero c => Sys2Proof.Machine.execCarrierZero c s
  | .carrierPeak c => Sys2Proof.Machine.execCarrierPeak c s
  | .compareEdge c leg rising => Sys2Proof.Machine.execCompareEdge c leg rising s
  | .deadtimeElapsed c leg upper => Sys2Proof.Machine.execDeadtimeElapsed c leg upper s
  | .blankingEnd c => Sys2Proof.Machine.execBlankingEnd c s
  | .chargePulseEnd c => Sys2Proof.Machine.execChargePulseEnd c s
  | .conversionComplete k rawA rawB => Sys2Proof.Machine.execConversionComplete k rawA rawB s
  | .jobComplete => Sys2Proof.Machine.execJobComplete s
  | .dcSample raw => Sys2Proof.Machine.execDcSample raw s
  | .overcurrent c phase => Sys2Proof.Machine.execOvercurrent c phase s
  | .gateFault c => Sys2Proof.Machine.execGateFault c s
  | .xtFilteredEdge xt => Sys2Proof.Machine.execXtFilteredEdge xt s
  | .busGrant => Sys2Proof.Machine.execBusGrant s
  | .grantWithdrawn => Sys2Proof.Machine.execGrantWithdrawn s
  | .sequenceSelect => Sys2Proof.Machine.execSequenceSelect s
  | .wordAnswer ready busErr data par => Sys2Proof.Machine.execWordAnswer ready busErr data par s
  | .readyTimeout => Sys2Proof.Machine.execReadyTimeout s
  | .directoryReadEnd out words => Sys2Proof.Machine.execDirectoryReadEnd out words s
  | .sheetFetchEnd out words => Sys2Proof.Machine.execSheetFetchEnd out words s
  | .reportWriteEnd out final => Sys2Proof.Machine.execReportWriteEnd out final s
  | .tripDumpEnd out => Sys2Proof.Machine.execTripDumpEnd out s
  | .nextPointerReadEnd out words => Sys2Proof.Machine.execNextPointerReadEnd out words s
  | .headerReadEnd out words => Sys2Proof.Machine.execHeaderReadEnd out words s
  | .claimWriteEnd out => Sys2Proof.Machine.execClaimWriteEnd out s
  | .bodyReadEnd out words => Sys2Proof.Machine.execBodyReadEnd out words s
  | .answerWriteEnd out notify => Sys2Proof.Machine.execAnswerWriteEnd out notify s
  | .doneWriteEnd out notify => Sys2Proof.Machine.execDoneWriteEnd out notify s
  | .captureWriteEnd out ctx => Sys2Proof.Machine.execCaptureWriteEnd out ctx s
  | .setGains o => Sys2Proof.Machine.execSetGains o s
  | .setLimits o => Sys2Proof.Machine.execSetLimits o s
  | .setChannelMode o => Sys2Proof.Machine.execSetChannelMode o s
  | .loadFieldTable o => Sys2Proof.Machine.execLoadFieldTable o s
  | .setPair o => Sys2Proof.Machine.execSetPair o s
  | .clearPair o => Sys2Proof.Machine.execClearPair o s
  | .setCarrier o => Sys2Proof.Machine.execSetCarrier o s
  | .setDcLink o => Sys2Proof.Machine.execSetDcLink o s
  | .setTripInputs o => Sys2Proof.Machine.execSetTripInputs o s
  | .start o => Sys2Proof.Machine.execStart o s
  | .run o => Sys2Proof.Machine.execRun o s
  | .stop o => Sys2Proof.Machine.execStop o s
  | .disable o => Sys2Proof.Machine.execDisable o s
  | .release o => Sys2Proof.Machine.execRelease o s
  | .capture o => Sys2Proof.Machine.execCapture o s
  | .cancel o => Sys2Proof.Machine.execCancel o s
  | .orderUnknownKind o => Sys2Proof.Machine.execOrderUnknownKind o s
  | .referenceZero => Sys2Proof.Machine.execReferenceZero s
  | .comparatorInputChange c phase active => Sys2Proof.Machine.execComparatorInputChange c phase active s
  | .gateFaultInputChange c low => Sys2Proof.Machine.execGateFaultInputChange c low s
  | .xtInputChange xt high => Sys2Proof.Machine.execXtInputChange xt high s
  | .requestAfterRelease => Sys2Proof.Machine.execRequestAfterRelease s

end Sys2Proof.Machine
end

