-- ==== Sys2Proof/Machine/Tick.lean ====
section
/-! DEFINITION. Time: what one tick moves, the counting of the filters, and the events that a state shows to be due
(R1, R2, R4, R14, R15, R20 to R22, R26, R66, R107 to R110, R120, R177 to R181, R186 to R188; logs 1, 2, 4, 7, 10). -/

namespace Sys2Proof.Machine

/-! ### One tick -/

/-- The off-time counters of a leg over one tick (R14). -/
def LegGate.tick (g : LegGate) : LegGate :=
  { g with offU := if g.latchU then g.offU else satAdd 255 g.offU 1,
           offL := if g.latchL then g.offL else satAdd 255 g.offL 1 }

/-- The timers of a channel over one tick: off-times (R14), the pulse timer (R15) and the blanking window, whose end
comes at the tick after its last (R107). -/
def Channel.tick (ch : Channel) : Channel :=
  { ch with
    mod := { ch.mod with legs := ch.mod.legs.map LegGate.tick, pulse := ch.mod.pulse.map (· - 1),
                         zeroTaken := false },
    tru := if 1 < ch.tru.blank then { ch.tru with blank := ch.tru.blank - 1, fresh := false }
           else { ch.tru with blankDue := ch.tru.blank == 1, fresh := false } }

/-- The marks of a channel's zero and peak at a tick (R4). -/
def Channel.mark (tauRef p : Nat) (ch : Channel) : Channel :=
  let tau := carrierPos tauRef ch.mod.offset p
  { ch with mod := { ch.mod with zeroDue := tau == 0, peakDue := carrierCount tau p == p } }

/-- A converter over one tick (R20 to R22). -/
def Converter.tick (k : Converter) : Converter :=
  { busy := k.busy.map fun (x : Conversion) => { x with left := x.left - 1 },
    waiting := k.waiting.map fun (x : Trigger) => { x with waited := x.waited + 1 } }

/-- The chopper's counters over one tick (R120). -/
def Dls.tick (d : Dls) : Dls :=
  if d.chopper then { d with onTime := satAdd 65535 d.onTime 1 }
  else { d with offTime := satAdd 65535 d.offTime 1 }

/-- The soft-reset hold and the comparator over one tick, with 4 ticks to a reference period: a window counts periods
and ticks from its first reference edge on (R186 to R188, log 4). -/
def Crw.tick (k : Crw) : Crw :=
  let x := { k with softHold := k.softHold.map (· - 1) }
  let counting := fun (y : Crw) (ticks : Nat) =>
    let edge := y.refTick = 3
    { y with refTick := if edge then 0 else y.refTick + 1,
             refCount := if edge then y.refCount + 1 else y.refCount, tickCount := ticks }
  match k.clock with
  | .locking => counting x x.tickCount
  | .checking | .valid =>
    if x.windowOn then counting x (x.tickCount + 1)
    else if x.refTick = 3 then { x with refTick := 0, windowOn := true }
    else { x with refTick := x.refTick + 1 }
  | .failed => x

/-- The port clock over one tick: its edges fall at every second tick (R179). -/
def Mpt.tick (m : Mpt) : Mpt :=
  if m.clockOn then { m with phase := !m.phase, edge := m.phase } else m

/-- The carriers and the DC-link interval over one tick (R1, R2, R4, R26). -/
def State.tickCarriers (s : State) : State :=
  if s.mod.running then
    let tau := (s.mod.tauRef + 1) % (2 * s.mod.p)
    { s with
      mod := { s.mod with tauRef := tau, refDue := tau == 0 },
      link := if s.link.pos + 1 < 200 then { s.link with pos := s.link.pos + 1 }
              else { s.link with pos := 0, due := true },
      ch := s.ch.map (Channel.mark tau s.mod.p) }
  else s

/-- One tick passes. -/
def State.tick (s : State) : State :=
  let t : State :=
    { s with
      crw := s.crw.tick, conv := s.conv.map Converter.tick,
      lpe := { s.lpe with engine := s.lpe.engine.map fun (j : Job) => { j with left := j.left - 1 } },
      dls := s.dls.tick, mpt := s.mpt.tick, ch := s.ch.map Channel.tick, counted := false }
  t.loadXt.tickCarriers

/-! ### The filters (R108 to R110) -/

/-- An overcurrent filter at one tick (R108). -/
def OcIn.count1 (blanked : Bool) (f : Nat) (o : OcIn) : OcIn :=
  if blanked || !o.active then { o with count := 0 }
  else if o.count < f then { o with count := o.count + 1, due := o.count + 1 == f }
  else o

/-- A channel's filters at one tick (R108, R109). In the tick of an entry into CALIBRATING the counts stay 0, so that an
input held active trips the channel F ticks after its start. -/
def Channel.countFilters (ch : Channel) : Channel :=
  if ch.tru.fresh then ch
  else
    let m := ch.chc.mode
    let t := { ch.tru with oc := ch.tru.oc.map (OcIn.count1 (decide (0 < ch.tru.blank)) m.ocFilter) }
    { ch with tru :=
        if !t.gfLow then { t with gfCount := 0 }
        else if t.gfCount < m.gfFilter then
          { t with gfCount := t.gfCount + 1, gfDue := t.gfCount + 1 == m.gfFilter }
        else t }

/-- An external input's filter at one tick (R110). -/
def Xt.count1 (x : Xt) : Xt :=
  if x.raw = x.level then { x with count := 0 } else { x with count := satAdd x.set.filter x.count 1 }

/-- Every filter counts the current tick, but for those of a channel that began anew in it. -/
def State.countFilters (s : State) : State :=
  { s with tru := { s.tru with xt := s.tru.xt.map Xt.count1 }, ch := s.ch.map Channel.countFilters,
           counted := true }

/-! ### The events that are due -/

/-- One event if a condition holds. -/
def dueIf (b : Bool) (i : Instr) : List Instr := if b then [i] else []

/-- Reset and clock events that are due (R186 to R188). -/
def State.dueClock (s : State) : List Instr :=
  let windowOver := decide (2000 ≤ s.crw.refCount)
  dueIf (s.crw.softHold == some 0) .softResetRelease ++
  match s.crw.clock with
  | .locking => dueIf (decide (5000 ≤ s.crw.refCount)) .lockTimeout
  | .checking | .valid =>
    dueIf windowOver (.comparatorWindowEnd s.crw.tickCount)
      ++ dueIf (!windowOver && decide (8200 ≤ s.crw.tickCount)) .tickCountOverrun
  | .failed => []

/-- The command of an ended sequence. -/
def Ended.command (e : Ended) : Instr :=
  match e.kind with
  | .directory => .directoryReadEnd e.out e.words
  | .sheet => .sheetFetchEnd e.out e.words
  | .report final => .reportWriteEnd e.out final
  | .dump => .tripDumpEnd e.out
  | .pointer => .nextPointerReadEnd e.out e.words
  | .header => .headerReadEnd e.out e.words
  | .claim => .claimWriteEnd e.out
  | .body => .bodyReadEnd e.out e.words
  | .answer notify => .answerWriteEnd e.out notify
  | .done notify => .doneWriteEnd e.out notify
  | .capture ctx => .captureWriteEnd e.out ctx

/-- The order that a claimed block carries (R136). -/
def Claimed.order (k : Claimed) : Order :=
  { channel := BitVec.ofNat 8 (bits k.w0 16 8), tag := BitVec.ofNat 16 (loHalf k.w2),
    length := BitVec.ofNat 8 (blockLength k.w2), bodyOk := k.bodyOk, body := k.body }

/-- The command that takes an order of a kind. -/
def OrderKind.command (k : OrderKind) (o : Order) : Instr :=
  match k with
  | .setGains => .setGains o
  | .setLimits => .setLimits o
  | .setChannelMode => .setChannelMode o
  | .loadFieldTable => .loadFieldTable o
  | .setPair => .setPair o
  | .clearPair => .clearPair o
  | .setCarrier => .setCarrier o
  | .setDcLink => .setDcLink o
  | .setTripInputs => .setTripInputs o
  | .start => .start o
  | .run => .run o
  | .stop => .stop o
  | .disable => .disable o
  | .release => .release o
  | .capture => .capture o
  | .cancel => .cancel o

/-- The take of the claimed order, when the walk has come to it (R157). -/
def State.dueTake (s : State) : List Instr :=
  match s.exc.walk with
  | some ⟨.take, _, some k⟩ =>
    match orderKind (blockKind k.w0) with
    | some kind => [kind.command k.order]
    | none => [.orderUnknownKind k.order]
  | some _ | none => []

/-- The reference event of this tick (R2). -/
def State.dueReference (s : State) : List Instr :=
  if s.mod.refDue then
    if s.mod.n ≤ s.mod.j + 1 then [.servoBoundary]
    else if s.mod.j + 1 = s.mod.n - s.mod.l then [.fetchPoint]
    else [.referenceZero]
  else dueIf s.mod.fetchDue .fetchPoint

/-- The carrier events of this tick (R4); of two peaks at one converter the lower channel's comes first (R21). -/
def State.dueCarriers (s : State) : List Instr :=
  (Chan.all.filter fun c => (s.chan c).mod.zeroDue).map Instr.carrierZero
    ++ (Chan.all.filter fun c => (s.chan c).mod.peakDue
        && !(Chan.all.any fun d => decide (d < c) && converterOf d == converterOf c
              && (s.chan d).mod.peakDue)).map Instr.carrierPeak

/-- The conversion that completes next in this tick: the lower channel first (R24). -/
def State.dueConversion (s : State) : List Instr :=
  let hit := Quad.all.filterMap fun k =>
    match (s.conv.get k).busy with
    | some x => if x.left = 0 then some (k, x.chan) else none
    | none => none
  (hit.filter fun x => hit.all fun y => decide (x.2 ≤ y.2)).map fun x =>
    let raw := Config.phaseCodes x.2 s.draws
    .conversionComplete x.1 raw.1 raw.2

/-- The job and the DC-link sample of this tick (R26, R66). -/
def State.dueEngine (s : State) : List Instr :=
  (match s.lpe.engine with
    | some j => dueIf (j.left == 0) .jobComplete
    | none => []) ++ dueIf s.link.due (.dcSample (Config.dcCode s.draws))

/-- The three legs. -/
def Leg.all : List Leg := [.a, .b, .c]

/-- The compare edge of a leg at this tick: its want is not the one of the carrier count (R12). -/
def State.dueEdge (s : State) (c : Chan) (leg : Leg) : List Instr :=
  let ch := s.chan c
  let cmp := ch.mod.active.get leg
  let want := modWant (s.count c) cmp s.mod.p
  dueIf (ch.source == .modulator && decide (0 < cmp) && decide (cmp < s.mod.p)
    && (ch.mod.legs.get leg).want != want) (.compareEdge c leg (want == .lower))

/-- A switch of the leg that is wanted on, off, and may turn on (R14, R17). -/
def State.dueTurnOn (s : State) (c : Chan) (leg : Leg) : List Instr :=
  let ch := s.chan c
  let g := ch.mod.legs.get leg
  let d := effDeadtime ch.chc.mode s.mod.p
  dueIf (s.pins.permit && g.want == .upper && !g.latchU && !g.latchL && decide (d ≤ g.offL))
      (.deadtimeElapsed c leg true)
    ++ dueIf (s.pins.permit && g.want == .lower && !g.latchL && !g.latchU && decide (d ≤ g.offU))
      (.deadtimeElapsed c leg false)

/-- The gate events of channel c at this tick: after its zero, its compare edges, then its turn-ons; its pulse and
its blanking window (R12, R14, R15, R107). -/
def State.dueGates (s : State) (c : Chan) : List Instr :=
  let ch := s.chan c
  let edges := Leg.all.flatMap (s.dueEdge c)
  let pulse := dueIf (ch.source == .charge && ch.mod.pulse == some 0) (.chargePulseEnd c)
  dueIf ch.tru.blankDue (.blankingEnd c) ++ pulse ++
    (if ch.mod.zeroDue then [] else if edges.isEmpty && pulse.isEmpty then Leg.all.flatMap (s.dueTurnOn c)
     else edges)

/-- The filter events of this tick, once its filters have counted (R108 to R110). -/
def State.dueFilters (s : State) : List Instr :=
  if s.counted then
    (Chan.all.flatMap fun c =>
      let t := (s.chan c).tru
      (Leg.all.filter fun leg => (t.oc.get leg).due).map (Instr.overcurrent c)
        ++ dueIf t.gfDue (.gateFault c))
    ++ (Quad.all.filter fun i =>
        let x := s.tru.xt.get i
        x.raw != x.level && decide (x.set.filter ≤ x.count)).map Instr.xtFilteredEdge
  else []

/-- The timeout of the word on the bus, when no answer has been sampled by data clock 256 (R181). What else MPT does
by itself it does at a port clock edge. -/
def State.duePort (s : State) : List Instr :=
  match s.onBus with
  | some x => dueIf (decide (256 ≤ x.dataClock)) .readyTimeout
  | none => []

/-- The events that the state shows to be due. -/
def State.due (s : State) : List Instr :=
  s.dueClock ++ s.mpt.ended.map Ended.command ++ s.dueTake ++ s.dueReference ++ s.dueCarriers
    ++ s.dueConversion ++ s.dueEngine ++ Chan.all.flatMap s.dueGates ++ s.dueFilters ++ s.duePort

/-- An event goes to the queue; every free choice made is counted. -/
def State.enqueue (s : State) (i : Instr) : State :=
  { s with pending := s.pending ++ [i], draws := s.draws + 1 }

/-- MPT's port clock edge of this tick (R177 to R179): what it does there by itself, or the event that falls due. -/
def State.portEdge (s : State) : State :=
  let t := s.actAtEdge
  match s.edgeEvent with
  | some i => t.enqueue i
  | none => { t with draws := t.draws + 1 }

/-- The block with nothing commanded (logs 1, 2, 7): under the reset input it stands still (R186). Of the events that
are due and the port clock edge of the tick, if MPT has not acted at it, one is taken by a free choice; an event is
put in the queue. With none left the filters count, and then one tick passes. -/
def State.idle (s : State) : State :=
  let n := s.due.length + if s.mpt.edge then 1 else 0
  if s.crw.held then s
  else if n = 0 then (if s.counted then s.tick else s.countFilters)
  else match s.due[Config.tieBreak s.draws % n]? with
    | some i => s.enqueue i
    | none => s.portEdge

end Sys2Proof.Machine
end

