-- ==== Sys2Proof/Machine/Step.lean ====
section
/-! DEFINITION. The step: the command at the front of the queue, or what the block does when none waits. -/

namespace Sys2Proof.Machine

/-- One step. The first waiting command runs on the state with the rest of the queue; with an empty queue the block
raises an event that is due, or lets time pass (logs 1 and 2). -/
def step (s : State) : Host.Outcome State Fault Refusal :=
  match s.pending with
  | i :: rest => exec i { s with pending := rest }
  | [] => .next s.idle

/-- A command put at the front of the queue. -/
def State.withCommand (s : State) (i : Instr) : State := { s with pending := i :: s.pending }

/-- The state with the command that a word spells at the front of its queue; unchanged where it spells none. -/
def State.withFetchWord (s : State) (nbits w : Nat) : State :=
  match Sys2Proof.decodeTableWord nbits w with
  | some i => s.withCommand i
  | none => s

end Sys2Proof.Machine
end

