-- ==== Sys2Proof/Safety.lean ====
section
/-! DEFINITION. What counts as a safe state: the gates, the tandem pairs, the timebase, the DC link and brake, and the
bounded lists and counters. -/

namespace Sys2Proof.Machine

/-- One leg is safe: a switch is on only while it is wanted, PERMIT is active and the reset input is not asserted; the
upper one is wanted only of a MODULATOR channel and the lower one not of an OFF channel (R13, R14, R17, R19). Both are
never on together, since a leg wants one at most. -/
def LegGate.Safe (g : LegGate) (source : GateSource) (permit held : Bool) : Prop :=
  (g.latchU = true → g.want = .upper ∧ permit = true ∧ held = false)
    ∧ (g.latchL = true → g.want = .lower ∧ permit = true ∧ held = false)
    ∧ (g.want = .upper → source = .modulator) ∧ (g.want = .lower → source ≠ .off)

/-- Every leg of every channel is safe. -/
def State.GatesSafe (s : State) : Prop :=
  ∀ (c : Chan) (leg : Leg),
    ((s.chan c).mod.legs.get leg).Safe (s.chan c).source s.pins.permit s.crw.held

/-- A channel on its way to ARMED or there: the states of a START in flight and after it (R82 to R84). -/
def ChanState.preparing : ChanState → Bool
  | .calibrating | .charging | .armed => true
  | .disabled | .running | .rampdown | .tripped => false

/-- A channel on its way back from RUNNING, or ARMED (R88, R90). -/
def ChanState.comingDown : ChanState → Bool
  | .armed | .rampdown => true
  | .disabled | .calibrating | .charging | .running | .tripped => false

/-- Two channel states that the members of a pair may have together: the same one, or two on the way to ARMED, or
two on the way back from RUNNING (R83, R84, R90, R96, R106). -/
def ChanState.Together (x y : ChanState) : Prop :=
  x = y ∨ (x.preparing = true ∧ y.preparing = true) ∨ (x.comingDown = true ∧ y.comingDown = true)

/-- Two pairs share no channel (R95). -/
def Pair.Apart (p q : Pair) : Prop :=
  p.leader ≠ q.leader ∧ p.leader ≠ q.follower ∧ p.follower ≠ q.leader ∧ p.follower ≠ q.follower

/-- The pair table is as R95 says, and the members of every pair stand in states they may have together (R106). -/
def State.PairsSafe (s : State) : Prop :=
  s.chc.pairs.length ≤ 3 ∧ s.chc.pairs.Pairwise Pair.Apart
    ∧ ∀ p ∈ s.chc.pairs, p.leader ≠ p.follower ∧ p.leader ≠ 0 ∧ p.follower ≠ 0 ∧ p.share ≤ 32768
        ∧ (s.cstate p.leader).Together (s.cstate p.follower)

/-- The states in which a lifecycle order can be in flight (R81 to R90): every one of a START between its take and its
end, ARMED for a RUN, RAMPDOWN or ARMED (the first member of a pair to arrive) for a STOP. -/
def LifeKind.allows : LifeKind → ChanState → Bool
  | .start, x => x.preparing
  | .run, x => x == .armed
  | .stop, x => x.comingDown

/-- Lifecycle orders in flight are held by leaders and single channels only, and every member is in a state in which
the order can be in flight (R81). -/
def State.LivesSafe (s : State) : Prop :=
  ∀ (c : Chan) (l : Life), (s.chan c).chc.life = some l →
    s.isFollower c = false ∧ ∀ m ∈ s.members c, l.kind.allows (s.cstate m) = true

/-- A carrier record within the ranges of R1 and R4. -/
def CarrierInRange (p : Nat) (offset : Chan → Nat) : Prop :=
  1000 ≤ p ∧ p ≤ 25000 ∧ ∀ c, offset c < 2 * p

/-- N and L within the ranges of R127. -/
def NLInRange (n l : Nat) : Prop := 1 ≤ l ∧ l ≤ n ∧ n ≤ 16

/-- The timebase is within the ranges of R1 to R4, and so is what waits to come into force. -/
def State.TimeSafe (s : State) : Prop :=
  NLInRange s.mod.n s.mod.l ∧ s.mod.j < s.mod.n
    ∧ (∀ q, s.mod.pendingNL = some q → NLInRange q.1 q.2)
    ∧ CarrierInRange s.mod.p (fun c => (s.chan c).mod.offset) ∧ s.mod.tauRef < 2 * s.mod.p
    ∧ (∀ x, s.chc.stCarrier = some x → CarrierInRange x.value.p x.value.offsets.get)

/-- udc and r within the ranges of R27 and R28. -/
def State.LinkSafe (s : State) : Prop := s.link.udc ≤ 32767 ∧ 32769 ≤ s.link.r ∧ s.link.r ≤ 1048576

/-- The chopper can be on only while E is below E_lim, it is off while BRAKE_HOT is set, and E stays below
E_lim + on_inc (R121). -/
def State.BrakeSafe (s : State) : Prop :=
  (s.dls.hot = true → s.dls.chopper = false) ∧ (s.dls.chopper = true → s.dls.e < s.dls.dc.eLim)
    ∧ s.dls.e < s.dls.dc.eLim + s.dls.dc.onInc
    ∧ (∀ x, s.chc.stDcLink = some x → 1 ≤ x.value.onInc)

/-- The queues and saturating counters of the part keep their bounds: 32 history entries (R72), 64 FIFO entries (R76),
one trip record per channel (R116), 16 order slots (R160), miss counts of 255 (R142), failure counts of 3 (R156,
R184). -/
def State.BoundsSafe (s : State) : Prop :=
  (∀ c, (s.chan c).lpe.hist.length ≤ 32 ∧ (s.chan c).exc.miss ≤ 255)
    ∧ s.lpe.cap0.fifo.length ≤ 64 ∧ s.lpe.cap1.fifo.length ≤ 64
    ∧ s.tru.dumps.Pairwise (fun x y => x.chan ≠ y.chan)
    ∧ s.exc.slots.length = 16 ∧ s.exc.walkFails ≤ 3 ∧ s.mpt.fails ≤ 3

end Sys2Proof.Machine
end

