-- ==== Sys2Proof/Certificates/Slice0/Obligations.lean ====
section
/-! DEFINITION. The statements for the provers: what the commands do, what they leave alone, and what every step
keeps. A command's own effect is stated exactly; what follows every event (a block hands the port its next sequence,
the exchange may become ready to close) is `State.follow`, and FollowHands says what that can change. -/

namespace Sys2Proof.Machine

/-! ### Words of the statements -/

/-- The window takes writes: no hardware reset, and no soft reset between its take and its release (R186). -/
def State.Open (s : State) : Prop := s.crw.held = false ∧ s.crw.softHold = none

/-- t is s but for what follows every event: what waits at the port, what EXC has handed over and its readiness to
close, and which capture write is in flight. -/
def State.SameButRequests (s t : State) : Prop :=
  t = { s with
    mpt := { s.mpt with pFetch := t.mpt.pFetch, pReport := t.mpt.pReport, pDump := t.mpt.pDump,
                        pWalk := t.mpt.pWalk, pCapture := t.mpt.pCapture },
    exc := { s.exc with dirWanted := t.exc.dirWanted, fetch := t.exc.fetch,
                        reportWaiting := t.exc.reportWaiting, ready := t.exc.ready },
    lpe := { s.lpe with cap0 := { s.lpe.cap0 with inFlight := t.lpe.cap0.inFlight },
                        cap1 := { s.lpe.cap1 with inFlight := t.lpe.cap1.inFlight } } }

/-- t is s but for the channels and what follows every event. -/
def State.SameButChannels (s t : State) : Prop := ({ s with ch := t.ch } : State).SameButRequests t

/-- REJECTED is set and its reason replaces the one before (R190). -/
def State.rejected (s : State) (r : Reason) : State :=
  { s with crw := { s.crw with notice := s.crw.notice ||| 0x80, reason := r } }

/-- One leg after it has followed its want from g to h: the want is kept; a switch is on exactly when it is wanted
under PERMIT and was on, or its complement has been off for the deadtime d (R14, R17); an off-time restarts at a
turn-off. -/
def LegGate.Follows (permit : Bool) (d : Nat) (g h : LegGate) : Prop :=
  h.want = g.want
    ∧ (h.latchU = true ↔ permit = true ∧ g.want = .upper
        ∧ (g.latchU = true ∨ d ≤ if g.latchL = true then 0 else g.offL))
    ∧ (h.latchL = true ↔ permit = true ∧ g.want = .lower
        ∧ (g.latchL = true ∨ d ≤ if g.latchU = true then 0 else g.offU))
    ∧ (h.offU = if g.latchU = true ∧ h.latchU = false then 0 else g.offU)
    ∧ (h.offL = if g.latchL = true ∧ h.latchL = false then 0 else g.offL)

/-- Every leg of the channel follows the wants `w`; the blanking window opens with B if a latch has changed and is as
it was otherwise (R14, R18, R107). -/
def Channel.GatesFollow (permit : Bool) (p : Nat) (w : Leg → Want) (x y : Channel) : Prop :=
  (∀ leg, LegGate.Follows permit (effDeadtime x.chc.mode p) { x.mod.legs.get leg with want := w leg }
      (y.mod.legs.get leg))
    ∧ ((∃ leg, LegGate.edge (x.mod.legs.get leg) (y.mod.legs.get leg) = true) →
        y.tru.blank = x.chc.mode.blanking ∧ y.tru.blankDue = false)
    ∧ ((∀ leg, LegGate.edge (x.mod.legs.get leg) (y.mod.legs.get leg) = false) → y.tru = x.tru)

/-- One leg of the channel follows the want `w` and the other legs stay; the blanking window opens with B if a latch
of the leg has changed and is as it was otherwise (R14, R18, R107); nothing else of the channel changes. -/
def Channel.LegFollows (permit : Bool) (p : Nat) (leg : Leg) (w : Want) (x y : Channel) : Prop :=
  LegGate.Follows permit (effDeadtime x.chc.mode p) { x.mod.legs.get leg with want := w } (y.mod.legs.get leg)
    ∧ (∀ l, l ≠ leg → y.mod.legs.get l = x.mod.legs.get l)
    ∧ (LegGate.edge (x.mod.legs.get leg) (y.mod.legs.get leg) = true →
        y.tru.blank = x.chc.mode.blanking ∧ y.tru.blankDue = false)
    ∧ (LegGate.edge (x.mod.legs.get leg) (y.mod.legs.get leg) = false → y.tru = x.tru)
    ∧ y = { x with mod := { x.mod with legs := y.mod.legs }, tru := y.tru }

/-- The port carries a sequence of this kind, or its end is still to be taken (R184). -/
def State.ReadInPort (s : State) (kind : SeqKind) : Prop :=
  (∃ e ∈ s.mpt.ended, e.kind = kind) ∨ ∃ x, s.mpt.seq = some x ∧ x.kind = kind

/-- Channel c has entered TRIPPED from s to t with a cause and detail (R93, R104, R114): its record in TRU, its frozen
history, no lifecycle order, no capture of it that runs, the TRIP notice, and its trip record filed. -/
def State.EnteredTrip (s t : State) (c : Chan) (cause : TripCause) (detail : Nat) : Prop :=
  t.cstate c = .tripped ∧ (t.chan c).tru.cause = some cause ∧ (t.chan c).tru.detail = detail
    ∧ (t.chan c).tru.later = 0
    ∧ (t.chan c).tru.action = (if cause.forced then .pulseBlock else (s.chan c).chc.mode.tripAction)
    ∧ (t.chan c).lpe.frozen = true ∧ (t.chan c).lpe.hist = (s.chan c).lpe.hist
    ∧ t.lifeOf c = none ∧ t.noticed .trip = true
    ∧ (∀ ctx, (t.cap ctx).state = .active ∨ (t.cap ctx).state = .draining → (t.cap ctx).chan ≠ c)
    ∧ ∃ r ∈ t.tru.dumps, r.chan = c ∧ r.cause = cause ∧ r.detail = detail
        ∧ r.action = (t.chan c).tru.action ∧ r.stateLeft = s.cstate c
        ∧ r.rampCause = (s.chan c).chc.rampCause ∧ r.s = s.mod.s ∧ r.udc = s.link.udc
        ∧ r.hist = (s.chan c).lpe.hist

/-- What a trip event with one cause and these addressed channels leaves of every channel (R103 to R106). `causeAt` is
the event's cause for an addressed channel, PARTNER for the partner of an addressed channel in service, and none for
every other channel. -/
def State.TripOutcome (s t : State) (addressed : List Chan) (cause : TripCause) (detail : Nat) : Prop :=
  ∀ c : Chan, match s.causeAt addressed cause detail c with
    | none => t.chan c = s.chan c
    | some (k, d) =>
      (s.cstate c = .disabled → t.cstate c = .disabled ∧ (t.chan c).tru.cause = (s.chan c).tru.cause)
      ∧ (s.cstate c = .tripped → t.cstate c = .tripped
          ∧ (t.chan c).tru.cause = (s.chan c).tru.cause ∧ (t.chan c).tru.detail = (s.chan c).tru.detail
          ∧ (∀ i, i < 12 → (t.chan c).tru.later.getLsbD i
              = ((s.chan c).tru.later.getLsbD i || decide (i = k.code)))
          ∧ (t.chan c).tru.action = if k.forced then .pulseBlock else (s.chan c).tru.action)
      ∧ ((s.cstate c).inService = true → s.EnteredTrip t c k d)

/-- The values that a hardware reset and a soft reset both leave (R19, R34, R63, R79, R102, R122, R123, R125, R151,
R176, R185, R186 and the default values of 00_scope.md). -/
def State.HoldsResetValues (s : State) : Prop :=
  (∀ c : Chan,
    let x := s.chan c
    x.mod.offset = c.val * 3125 / 4 ∧ x.mod.periodCount = 0 ∧ x.mod.index = 0 ∧ x.mod.shadow = none
      ∧ x.mod.active = ⟨1563, 1563, 1563⟩ ∧ x.mod.pulses = 0 ∧ x.mod.pulse = none
      ∧ (∀ leg, (x.mod.legs.get leg).latchU = false ∧ (x.mod.legs.get leg).latchL = false)
      ∧ x.smu = ⟨2048, 2048, 0, 0, 0⟩
      ∧ x.lpe = ⟨0, 0, 0, 0, 0, 0, 0, 0, [], false, ⟨0, 0, 0, false, false, false, 0, 0, 0, 0⟩, 0,
        false⟩
      ∧ x.chc.state = .disabled ∧ x.chc.rampCause = .none ∧ x.chc.life = none
      ∧ x.chc.gains = ⟨1024, 0, 1024, 0, 0, 0, 0, 24, false⟩
      ∧ x.chc.limits = ⟨16000, 8000, 30000, 64, 512, 31130, 2048, .lenient⟩
      ∧ x.chc.mode = ⟨.zero, 0, .ramp, .pulseBlock, 0, 4096, 160, 8, 500, 100, 20, 100, 20, 50⟩
      ∧ x.chc.stGains = none ∧ x.chc.stLimits = none
      ∧ x.tru.blank = 0 ∧ x.tru.oc.a.count = 0 ∧ x.tru.oc.b.count = 0 ∧ x.tru.oc.c.count = 0
      ∧ x.tru.gfCount = 0 ∧ x.tru.cause = none ∧ x.tru.detail = 0 ∧ x.tru.later = 0
      ∧ x.tru.action = .pulseBlock
      ∧ x.exc = ⟨0, .empty, ⟨0, 0, 8⟩, ⟨0, 0, 8⟩, 0, 0, none, 0, false⟩)
    ∧ s.mod.tauRef = 0 ∧ s.mod.j = 0 ∧ s.mod.s = 0 ∧ s.mod.n = 8 ∧ s.mod.l = 1 ∧ s.mod.pendingNL = none
    ∧ s.mod.p = 3125
    ∧ s.conv = Bank4.const ⟨none, none⟩ ∧ s.link = ⟨0, false, 0, 53687, 0, 0⟩
    ∧ s.lpe.ready = [] ∧ s.lpe.engine = none ∧ s.lpe.cap0 = CapCtx.free ∧ s.lpe.cap1 = CapCtx.free
    ∧ s.chc = ⟨Bank4.const ⟨[], none⟩, [], none, none, none⟩
    ∧ s.tru.dumps = [] ∧ s.tru.dumpSeq = 0
    ∧ (∀ i, (s.tru.xt.get i).set = ⟨.disabled, 0, .trip, 100⟩ ∧ (s.tru.xt.get i).count = 0
        ∧ (s.tru.xt.get i).level = (s.tru.xt.get i).raw)
    ∧ s.dls.dc = ⟨2048, 12000, 13000, 25000, 26000, 29000, 2000, 2000, 256, 16, 1000000⟩
    ∧ s.dls.armed = false ∧ s.dls.uvRun = false ∧ s.dls.ovRun = false ∧ s.dls.chopper = false
    ∧ s.dls.onTime = 0
    ∧ s.exc = ⟨.stopped, ⟨8, 1, 3, 0, false⟩, true, false, 0, false, false, false, none, false, none, 0, 0,
        ⟨0, 0, 0, 0, 0, 0, 0, 0⟩, 0, none, false, false, none, none, 0, false, List.replicate 16 .free, []⟩
    ∧ s.mpt.bus = .released ∧ s.mpt.seq = none ∧ s.mpt.ended = [] ∧ s.mpt.anyPending = false
    ∧ s.mpt.fails = 0
    ∧ s.crw.notice = 0 ∧ s.crw.enable = 0 ∧ s.crw.reason = .none

/-- All outputs of the part off: gates, brake chopper, bus and notice line. -/
def State.OutputsOff (s : State) : Prop :=
  (∀ c leg upper, s.gateOut c leg upper = false) ∧ s.brakeOut = false ∧ s.busRequest = false
    ∧ s.busBusy = false ∧ s.busLock = false ∧ s.busWord = none ∧ s.noticeLine = false

/-- An attempt of the clock check has failed from s to t: the next one begins in LOCKING, or the third failure is
FAILED with the CLOCK notice (R187). Nothing outside CRW changes. -/
def State.AttemptFailed (s t : State) : Prop :=
  t = { s with crw := t.crw } ∧ t.crw.attempts = s.crw.attempts + 1
    ∧ if s.crw.attempts + 1 < 3 then
        t.crw.clock = .locking ∧ t.crw.refCount = 0 ∧ t.crw.tickCount = 0 ∧ t.crw.notice = s.crw.notice
      else t.crw.clock = .failed ∧ t.crw.notice = s.crw.notice ||| 0x40

/-- The block that an order was taken from, its slot released and the answer in the completed form to be written, with
S as its stamp (R158, R160); nothing without a block (log 1). -/
def State.doneAt (s : State) (x : Option Claimed) (r : Result) : State :=
  match x with
  | none => s
  | some k => { s with exc := { s.exc with
      slots := match k.slot with
        | some i => s.exc.slots.set i .free
        | none => s.exc.slots,
      walk := s.exc.walk.map fun w =>
        { w with stage := .answer, claimed := some { k with answer := some (.done r s.mod.s) } } } }

/-- The block that an order was taken from, its slot holding the order in flight with the result it completes with at
a swap, and the ACTIVE answer to be written (R98, R158, R160); nothing without a block (log 1). -/
def State.activeAt (s : State) (x : Option Claimed) (fixed : Result) : State :=
  match x with
  | none => s
  | some k => { s with exc := { s.exc with
      slots := match k.slot with
        | some i => s.exc.slots.set i (.held ⟨k.addr, k.w0, k.w2, fixed, false, none⟩)
        | none => s.exc.slots,
      walk := s.exc.walk.map fun w =>
        { w with stage := .answer, claimed := some { k with answer := some .active } } } }

/-- The order in a slot, if it is in flight there, completes from s to t with a result and a stamp: its DONE write is
on the write-back list, or its answer write, not yet begun, will carry it (R158, R160, R161). -/
def State.Completes (s t : State) (i : Nat) (r : Result) (stamp : Word) : Prop :=
  ∀ o, s.slot i = .held o →
    if o.begun then t.slot i = .writing ∧ ⟨o.addr, o.w0, o.w2, r, stamp, i⟩ ∈ t.exc.writeBack
    else t.slot i = .held { o with early := some (r, stamp) }

/-- The orders that wait on the staged records of s (R98). -/
def State.stagedSlots (s : State) : List Nat :=
  (Chan.all.flatMap fun c =>
      (s.chan c).chc.stGains.elim [] Staged.slots ++ (s.chan c).chc.stLimits.elim [] Staged.slots)
    ++ (Quad.all.flatMap fun i => (s.chc.tables.get i).staged.elim [] Staged.slots)
    ++ s.chc.stCarrier.elim [] Staged.slots ++ s.chc.stDcLink.elim [] Staged.slots ++ s.chc.stXt.elim [] Staged.slots

/-- The inputs of a job on this set are those of the state at its start (R36, R46, R147). -/
def State.InputsOf (s : State) (x : SampleSet) (i : JobIn) : Prop :=
  let ch := s.chan x.chan
  i.rawA = x.rawA ∧ i.rawB = x.rawB ∧ i.offA = ch.smu.offA ∧ i.offB = ch.smu.offB
    ∧ i.udc = s.link.udc ∧ i.r = s.link.r ∧ i.angle = ch.lpe.angle ∧ i.w = ch.lpe.w
    ∧ i.iqSheet = ch.exc.q.demand ch.chc.mode.interp ch.mod.index
    ∧ i.idSheet = ch.exc.d.demand ch.chc.mode.interp ch.mod.index
    ∧ i.vdFf = ch.exc.vdFf ∧ i.vqFf = ch.exc.vqFf ∧ i.ls = ch.exc.ls ∧ i.offset = ch.exc.offset
    ∧ i.lead = (match s.pairOf x.chan with
        | some p => if p.follower = x.chan then some ⟨(s.chan p.leader).qDemand, p.share⟩ else none
        | none => none)
    ∧ i.gains = ch.chc.gains ∧ i.limits = ch.chc.limits ∧ i.dSource = ch.chc.mode.dSource
    ∧ i.table = (s.chc.tables.get ch.chc.mode.table).active ∧ i.gI = ch.chc.mode.gI
    ∧ i.state = ch.chc.state ∧ i.rampCause = ch.chc.rampCause ∧ i.iD = ch.lpe.iD ∧ i.iQ = ch.lpe.iQ
    ∧ i.lastIdRef = ch.lpe.idRef ∧ i.lastIqRef = ch.lpe.iqRef ∧ i.index = ch.mod.index
    ∧ i.p = s.mod.p ∧ i.cmin = min ch.chc.mode.cmin (s.mod.p / 8)

/-- A job that the engine has started from s to t: the head of the list, for 120 ticks, with the inputs of t, which
its start leaves as they were (R36, R66). -/
def State.Started (t : State) (ready : List SampleSet) (j : Job) : Prop :=
  ready.head? = some j.set ∧ j.left = 120 ∧ j.late = false ∧ j.void = .no ∧ t.InputsOf j.set j.inp

/-- The idle engine has started from the ready list: its head has left it, and a job runs on it of the kind that its
channel's state gives, for 120 ticks, with the inputs of t; an empty list leaves the engine idle (R35, R36, R66). -/
def State.StartsNext (t : State) (ready : List SampleSet) : Prop :=
  t.lpe.ready = ready.drop 1 ∧ (ready = [] → t.lpe.engine = none)
    ∧ (∀ z, ready.head? = some z →
      t.lpe.engine.map (fun j => (j.set, j.left, j.late, j.void, j.kind)) =
        match t.cstate z.chan with
        | .disabled => none
        | .calibrating => some (z, 120, false, .no, .calibration)
        | .charging | .armed | .tripped => some (z, 120, false, .no, .measuring)
        | .running | .rampdown => some (z, 120, false, .no, .full))
    ∧ ∀ j, t.lpe.engine = some j → t.Started ready j

/-- A job of channel c in the engine will end with SOFT_OC: neither void nor past its deadline, it makes the check and
finds a current beyond Itrip (R35, R40). -/
def State.SoftOcInHand (s : State) (c : Chan) : Prop :=
  ∃ j, s.lpe.engine = some j ∧ j.set.chan = c ∧ j.void = .no ∧ j.late = false ∧ j.kind ≠ .calibration
    ∧ j.inp.state ≠ .tripped ∧ j.inp.overItrip = true

/-- The period that ends at channel c's coming zero counts as one without a job: the channel is modulated with no fresh
compare set (R9, R71), or the period's job has ended, or will end, with SOFT_OC (R40, log 54). -/
def State.PeriodWithoutJob (s : State) (c : Chan) : Prop :=
  let x := s.chan c
  ((x.chc.state = .running ∨ x.chc.state = .rampdown) ∧ x.mod.shadow = none)
    ∨ x.lpe.noJobDue = true ∨ s.SoftOcInHand c

/-- What every carrier zero of channel c does from s to t, also one whose entry trips the channel: the counts (R5, R9,
R40) and the deadline of the channel's sets (R67). -/
def State.ZeroCounts (s t : State) (c : Chan) : Prop :=
  let x := s.chan c
  let y := t.chan c
  let waits := ∃ z ∈ s.lpe.ready, z.chan = c
  y.mod.periodCount = x.mod.periodCount + 1
    ∧ y.mod.index = (if x.mod.newCycle then 0 else if x.mod.index + 1 < s.mod.n then x.mod.index + 1
        else s.mod.n - 1)
    ∧ y.mod.newCycle = false
    ∧ y.lpe.lateTotal = (if waits then min 65535 (x.lpe.lateTotal + 1) else x.lpe.lateTotal)
    ∧ (y.lpe.stats.late = true ↔ x.lpe.stats.late = true ∨ waits)
    ∧ (s.PeriodWithoutJob c → y.lpe.stats.noJob = x.lpe.stats.noJob + 1)
    ∧ (¬ s.PeriodWithoutJob c → y.lpe.stats.noJob = x.lpe.stats.noJob)
    ∧ y.lpe.noJobDue = false
    ∧ y.smu = x.smu
    ∧ t.lpe.ready = s.lpe.ready.filter (fun z => decide (z.chan ≠ c))
    ∧ (∀ k, t.conv.get k = ⟨(s.conv.get k).busy.map fun z => { z with late := z.late || decide (z.chan = c) },
        (s.conv.get k).waiting.map fun z => { z with late := z.late || decide (z.chan = c) }⟩)
    ∧ (∀ j, s.lpe.engine = some j → j.set.chan = c → t.lpe.engine.map Job.late = some true)
    ∧ t.mod = s.mod ∧ t.chc = s.chc ∧ t.link = s.link ∧ t.dls = s.dls

/-- What a carrier zero of channel c that trips nothing does besides, from s to t: the compares (R9), the charge pulse
(R15), the wants and latches at count 0 (R12 to R16), and the late mark of the channel's job in hand (R67). The states
of the channels and the other channels are left alone. -/
def State.ZeroActs (s t : State) (c : Chan) : Prop :=
  let x := s.chan c
  let y := t.chan c
  let modulated := x.chc.state = .running ∨ x.chc.state = .rampdown
  s.ZeroCounts t c
    ∧ y.mod.active = (if modulated then x.mod.shadow.getD x.mod.active else x.mod.active)
    ∧ y.mod.shadow = (if modulated then none else x.mod.shadow)
    ∧ y.mod.pulse = (if x.chc.state = .charging ∧ 0 < x.mod.pulses
        then some (min x.chc.mode.width s.mod.p) else x.mod.pulse)
    ∧ x.GatesFollow s.pins.permit s.mod.p (fun leg => match x.chc.state with
        | .running | .rampdown => if y.mod.active.get leg = 0 then .lower else .upper
        | .charging => if y.mod.pulse.isSome then .lower else .none
        | .tripped => if x.tru.action = .lowShort then .lower else .none
        | .disabled | .calibrating | .armed => .none) y
    ∧ t.lpe.engine = s.lpe.engine.map (fun j => { j with late := j.late || decide (j.set.chan = c) })
    ∧ y.chc = x.chc ∧ (∀ d, d ≠ c → t.chan d = s.chan d) ∧ t.tru = s.tru ∧ t.crw = s.crw

/-- The ones that a byte lane of a word and its parity bit hold together (R183). -/
def laneOnes (w : Word) (par : BitVec 4) (lane : Nat) : Nat :=
  (List.range 8).countP (fun k => w.getLsbD (8 * lane + k)) + if par.getLsbD lane = true then 1 else 0

/-- The words `ws` are entry e of a demand sheet, as the entry table of R134 lays it out: a signed half of -32768 is
read as -32767, a limit scale above 32768 as 32768. -/
def Entry.LaidIn (e : Entry) (ws : List Word) : Prop :=
  let w := fun (i : Nat) => ws.getD i 0
  let has := fun (i : Nat) => if (w 0).getLsbD i = true then 1 else 0
  let signed := fun (x : Word) (lo : Nat) => max (-32767) (x.extractLsb' lo 16).toInt
  let given := fun (i : Nat) (x : Word) => if (w 0).getLsbD i = true then some x else none
  ws.length = 3 + has 0 + has 1 + has 2 + has 3
    ∧ bits (w 0) 4 4 = 0 ∧ bits (w 0) 8 8 = e.chan.val
    ∧ e.iq = signed (w 0) 16 ∧ e.angle = (w 1).extractLsb' 0 16 ∧ e.w = w 2
    ∧ e.d = (given 0 (w 3)).map (fun x => signed x 0)
    ∧ e.ff = (given 1 (w (3 + has 0))).map (fun x => (signed x 0, signed x 16))
    ∧ e.ls = (given 2 (w (3 + has 0 + has 1))).map (fun x => min (x.extractLsb' 0 16).toNat 32768)
    ∧ e.offset = (given 3 (w (3 + has 0 + has 1 + has 2))).map (fun x => signed x 0)

/-- The words of a fetch are a well-formed sheet with these entries (R134): a length of 5 to 128 that is the number of
words, flags 0, and between the header and the tail stamp the entries of the channels of the mask, ascending. -/
def Sheet.ReadFrom (x : Sheet) (ws : List Word) : Prop :=
  let w1 := ws.getD 1 0
  5 ≤ bits w1 16 8 ∧ bits w1 16 8 ≤ 128 ∧ ws.length = bits w1 16 8 ∧ bits w1 8 8 = 0
    ∧ x.entries.map Entry.chan = Chan.all.filter (fun c => w1.getLsbD c.val)
    ∧ ∃ (parts : List (List Word)) (tail : Word), ws.drop 4 = parts.flatten ++ [tail]
        ∧ List.Forall₂ Entry.LaidIn x.entries parts

/-- 10^20 times the sine of 2πn/1024, by the first terms of its power series, with π to 20 decimals. -/
def sineSeries (n : Nat) : Int :=
  let x : Int := 314159265358979323846 * n / 512
  let one := fun (a : Int × Int) (k : Nat) =>
    (a.1 + a.2, -(a.2 * x / 10 ^ 20 * x / 10 ^ 20) / ((2 * k + 2) * (2 * k + 3) : Nat))
  ((List.range 14).foldl one (0, x)).1

/-- The order o of kind code `code` is the claimed block's, and the walk has come to its take (R136, R157). -/
def State.TakeDue (s : State) (code : Nat) (o : Order) : Prop :=
  ∃ n k, s.exc.walk = some ⟨.take, n, some k⟩ ∧ bits k.w0 8 8 = code ∧ o.channel.toNat = bits k.w0 16 8
    ∧ o.tag.toNat = bits k.w2 0 16 ∧ o.length.toNat = bits k.w2 16 8 ∧ o.bodyOk = k.bodyOk ∧ o.body = k.body

/-- A compare edge of this leg is due: the leg is modulated, its compare value holds it in neither position, and its
want is not the one of the carrier count (R12). -/
def State.EdgeDue (s : State) (c : Chan) (leg : Leg) : Prop :=
  let cmp := (s.chan c).mod.active.get leg
  (s.cstate c = .running ∨ s.cstate c = .rampdown) ∧ 0 < cmp ∧ cmp < s.mod.p
    ∧ ((s.chan c).mod.legs.get leg).want ≠ if s.count c < cmp then .upper else .lower

/-- The charge pulse of the channel has lasted its width (R15). -/
def State.PulseEndDue (s : State) (c : Chan) : Prop :=
  s.cstate c = .charging ∧ (s.chan c).mod.pulse = some 0

/-- The event that command i stands for falls due in state s by the rules themselves; what comes from outside (writes,
pins, the slave's answers, the resets, the PLL's indication) never does, nor do the events of the port clock edge. -/
def State.FallsDue (s : State) (i : Instr) : Prop :=
  let comparing := s.crw.clock = .checking ∨ s.crw.clock = .valid
  let ends := fun (k : SeqKind) (out : PortOutcome) (ws : List Word) => (⟨k, out, ws⟩ : Ended) ∈ s.mpt.ended
  match i with
  | .softResetRelease => s.crw.softHold = some 0
  | .lockTimeout => s.crw.clock = .locking ∧ 5000 ≤ s.crw.refCount
  | .comparatorWindowEnd n => comparing ∧ 2000 ≤ s.crw.refCount ∧ n = s.crw.tickCount
  | .tickCountOverrun => comparing ∧ s.crw.refCount < 2000 ∧ 8200 ≤ s.crw.tickCount
  | .servoBoundary => s.mod.refDue = true ∧ s.mod.n ≤ s.mod.j + 1
  | .fetchPoint => (s.mod.refDue = true ∧ s.mod.j + 1 < s.mod.n ∧ s.mod.j + 1 = s.mod.n - s.mod.l)
      ∨ (s.mod.refDue = false ∧ s.mod.fetchDue = true)
  | .referenceZero => s.mod.refDue = true ∧ s.mod.j + 1 < s.mod.n ∧ s.mod.j + 1 ≠ s.mod.n - s.mod.l
  | .carrierZero c => (s.chan c).mod.zeroDue = true
  | .carrierPeak c => (s.chan c).mod.peakDue = true
      ∧ ∀ d, d < c → d.val % 4 = c.val % 4 → (s.chan d).mod.peakDue = false
  | .compareEdge c leg rising => (s.chan c).mod.zeroDue = false ∧ s.EdgeDue c leg
      ∧ (rising = true ↔ (s.chan c).mod.active.get leg ≤ s.count c)
  | .deadtimeElapsed c leg upper =>
    let g := (s.chan c).mod.legs.get leg
    (s.chan c).mod.zeroDue = false ∧ (∀ l, ¬ s.EdgeDue c l) ∧ ¬ s.PulseEndDue c ∧ s.pins.permit = true
      ∧ g.latchU = false ∧ g.latchL = false ∧ g.want = (if upper then .upper else .lower)
      ∧ min (s.chan c).chc.mode.deadtime (s.mod.p / 4) ≤ if upper then g.offL else g.offU
  | .chargePulseEnd c => s.PulseEndDue c
  | .blankingEnd c => (s.chan c).tru.blankDue = true
  | .conversionComplete k a b => ∃ x, (s.conv.get k).busy = some x ∧ x.left = 0
      ∧ (∀ q y, (s.conv.get q).busy = some y → y.left = 0 → x.chan ≤ y.chan)
      ∧ (a, b) = Config.phaseCodes x.chan s.draws
  | .jobComplete => s.lpe.engine.map Job.left = some 0
  | .dcSample raw => s.link.due = true ∧ raw = Config.dcCode s.draws
  | .overcurrent c leg => s.counted = true ∧ ((s.chan c).tru.oc.get leg).due = true
  | .gateFault c => s.counted = true ∧ (s.chan c).tru.gfDue = true
  | .xtFilteredEdge q => s.counted = true ∧ (s.tru.xt.get q).raw ≠ (s.tru.xt.get q).level
      ∧ (s.tru.xt.get q).set.filter ≤ (s.tru.xt.get q).count
  | .readyTimeout => s.mpt.bus = .owning ∧ ∃ x, s.mpt.seq = some x ∧ x.suspended = false ∧ 256 ≤ x.dataClock
  | .directoryReadEnd out ws => ends .directory out ws
  | .sheetFetchEnd out ws => ends .sheet out ws
  | .reportWriteEnd out final => ∃ e ∈ s.mpt.ended, e.kind = .report final ∧ e.out = out
  | .tripDumpEnd out => ∃ e ∈ s.mpt.ended, e.kind = .dump ∧ e.out = out
  | .nextPointerReadEnd out ws => ends .pointer out ws
  | .headerReadEnd out ws => ends .header out ws
  | .claimWriteEnd out => ∃ e ∈ s.mpt.ended, e.kind = .claim ∧ e.out = out
  | .bodyReadEnd out ws => ends .body out ws
  | .answerWriteEnd out notify => ∃ e ∈ s.mpt.ended, e.kind = .answer notify ∧ e.out = out
  | .doneWriteEnd out notify => ∃ e ∈ s.mpt.ended, e.kind = .done notify ∧ e.out = out
  | .captureWriteEnd out ctx => ∃ e ∈ s.mpt.ended, e.kind = .capture ctx ∧ e.out = out
  | .setGains o => s.TakeDue 1 o
  | .setLimits o => s.TakeDue 2 o
  | .setChannelMode o => s.TakeDue 3 o
  | .loadFieldTable o => s.TakeDue 4 o
  | .setPair o => s.TakeDue 5 o
  | .clearPair o => s.TakeDue 6 o
  | .setCarrier o => s.TakeDue 7 o
  | .setDcLink o => s.TakeDue 8 o
  | .setTripInputs o => s.TakeDue 9 o
  | .start o => s.TakeDue 10 o
  | .run o => s.TakeDue 11 o
  | .stop o => s.TakeDue 12 o
  | .disable o => s.TakeDue 13 o
  | .release o => s.TakeDue 14 o
  | .capture o => s.TakeDue 15 o
  | .cancel o => s.TakeDue 16 o
  | .orderUnknownKind o => ∃ code, (code = 0 ∨ 16 < code) ∧ s.TakeDue code o
  | .hardwareReset | .hardwareResetRelease _ | .lockIndicated | .go | .quiesce | .fastStop | .softReset
  | .urgentUnknownCode _ | .regionBaseWrite _ | .noticeWrite _ | .noticeEnableWrite _
  | .registerWriteIgnored _ _ | .permitInactive | .permitActive | .busGrant | .grantWithdrawn
  | .sequenceSelect | .wordAnswer _ _ _ _ | .comparatorInputChange _ _ _ | .gateFaultInputChange _ _
  | .xtInputChange _ _ | .requestAfterRelease => False

/-- A capture context from k to m over a tapped commit of channel c (R75, R76): every decim-th commit of the channel
is produced, as an entry of the FIFO or, with 64 entries there, as a drop, and the last one starts the draining.
`number` is the place of the commit in the order of taps. What follows the event may put a write in flight. -/
def CapCtx.Taps (c : Chan) (e : HistEntry) (number : Nat) (k m : CapCtx) : Prop :=
  (¬ (k.state = .active ∧ k.chan = c) → m = { k with inFlight := m.inFlight })
    ∧ (k.state = .active → k.chan = c → k.decCount ≠ 0 →
        m = { k with decCount := (k.decCount + 1) % k.decim, inFlight := m.inFlight })
    ∧ (k.state = .active → k.chan = c → k.decCount = 0 → m = { k with
        decCount := 1 % k.decim, produced := k.produced + 1, inFlight := m.inFlight,
        state := if k.produced + 1 = k.count then .draining else .active,
        fifo := if k.fifo.length < 64
          then k.fifo ++ [⟨k.produced, number, captureWords e k.produced k.mask⟩] else k.fifo,
        drops := if k.fifo.length < 64 then k.drops else min 65535 (k.drops + 1) })

/-- The words of a report lie as R135 says: the part's items, then the block of each channel. The items of s are as
they stand before the boundary, those of t as it leaves them. -/
def State.ReportShows (s t : State) (r : Report) : Prop :=
  let w := fun (i : Nat) => r.words.getD i 0
  let k := t.exc.counters
  w 1 = t.exc.lastStamp ∧ w 2 = t.exc.position.getD (s.crw.base + 8) ∧ w 3 = t.exc.mark0 ∧ w 4 = t.exc.mark1
    ∧ bits (w 5) 0 4 = t.exc.state.code ∧ (w 5).getLsbD 4 = r.final ∧ (w 5).getLsbD 5 = s.dls.chopper
    ∧ (w 5).getLsbD 6 = s.dls.hot ∧ (w 5).getLsbD 7 = s.exc.halted
    ∧ bits (w 5) 16 16 = (if s.link.cycCount = 0 then s.link.udc
        else (s.link.cycSum + s.link.cycCount / 2) / s.link.cycCount) % 65536
    ∧ w 6 = pack k.torn k.stale ∧ w 7 = pack k.parity k.form ∧ w 8 = pack k.port k.lateFetch
    ∧ w 9 = pack k.skipped k.jumps ∧ w 10 = pack t.exc.reportFails 0
    ∧ ∀ c : Chan,
        let x := s.chan c
        let y := t.chan c
        let st := x.lpe.stats
        let b := fun (i : Nat) => w (11 + 6 * c.val + i)
        bits (b 0) 0 4 = y.chc.state.code ∧ bits (b 0) 4 4 = y.chc.rampCause.code
          ∧ bits (b 0) 8 4 = y.tru.cause.elim 0 TripCause.code ∧ (b 0).getLsbD 12 = st.limI
          ∧ (b 0).getLsbD 13 = st.limV ∧ (b 0).getLsbD 14 = st.late ∧ (b 0).getLsbD 15 = false
          ∧ (b 0).getLsbD 16 = (decide (0 < st.noJob) || decide (st.commits = 0))
          ∧ bits (b 0) 17 7 = 0 ∧ bits (b 0) 24 8 = y.exc.miss % 256
          ∧ (∀ i, i < 16 → (b 1).getLsbD i = (decide (i ≠ 0) && y.tru.later.getLsbD i))
          ∧ bits (b 1) 16 16 = ((t.lifeOf c).elim 0 Life.tag).toNat
          ∧ b 2 = (if st.commits = 0 then 0 else pack ((st.idSum + (st.commits / 2 : Nat)) / st.commits)
              ((st.iqSum + (st.commits / 2 : Nat)) / st.commits))
          ∧ b 3 = (if st.commits = 0 then pack x.lpe.vd x.lpe.vq else pack st.vd st.vq)
          ∧ b 4 = (if st.commits = 0 then pack x.lpe.iqRef 0 else pack st.iqRef 0)
          ∧ b 5 = pack y.lpe.lateTotal 0

/-- The words of a trip record lie as R137 says, with the later-cause mask as given. -/
def TripRecord.LaidOut (d : TripRecord) (later : BitVec 12) (ws : List Word) : Prop :=
  let w := fun (i : Nat) => ws.getD i 0
  ws.length = 139 ∧ w 0 = d.seq ∧ w 138 = d.seq
    ∧ bits (w 1) 0 8 = d.chan.val ∧ bits (w 1) 8 8 = d.cause.code ∧ bits (w 1) 16 8 = d.detail % 256
    ∧ bits (w 1) 24 4 = d.action.code ∧ bits (w 1) 28 4 = d.stateLeft.code
    ∧ (∀ i, i < 16 → (w 2).getLsbD i = (decide (i ≠ 0) && later.getLsbD i))
    ∧ bits (w 2) 16 4 = d.rampCause.code ∧ bits (w 2) 24 6 = d.hist.length
    ∧ w 3 = d.s ∧ w 4 = d.periodCount ∧ w 5 = BitVec.ofInt 32 d.iD ∧ w 6 = BitVec.ofInt 32 d.iQ
    ∧ w 7 = pack d.idRef d.iqRef ∧ w 8 = pack d.vd d.vq ∧ w 9 = pack d.udc 0
    ∧ (∀ n h, d.hist[n]? = some h → w (10 + 4 * n) = pack h.periodLow.toNat h.thetaS
        ∧ w (11 + 4 * n) = pack h.id h.iq ∧ w (12 + 4 * n) = pack h.iqRef h.vd
        ∧ (w (13 + 4 * n)).setWidth 16 = BitVec.ofInt 16 h.vq ∧ bits (w (13 + 4 * n)) 16 8 = h.skew % 256
        ∧ (w (13 + 4 * n)).getLsbD 24 = h.limI ∧ (w (13 + 4 * n)).getLsbD 25 = h.limV
        ∧ bits (w (13 + 4 * n)) 26 6 = 0)
    ∧ ∀ i, 10 + 4 * d.hist.length ≤ i → i < 138 → w i = 0

/-- What a fast stop request to the named channels leaves of every channel (R96, R100). It reaches a channel that is
named, or whose partner is, and each is judged by its state before the request: RUNNING ramps down fast, RAMPDOWN
turns to the fast step with its order going on, a RUN in flight ends with its channel ARMED, fast RAMPDOWN trips with
STOP_ESCALATED and takes a partner that is not itself in fast RAMPDOWN along with PARTNER, and every other state is
left. -/
def State.StopOutcome (s t : State) (named : List Chan) : Prop :=
  ∀ c : Chan,
    let reached := c ∈ named ∨ ∃ q, s.partner c = some q ∧ q ∈ named
    let alone := ∀ q, s.partner c = some q → s.fastRamping q = false
    (¬ reached → t.chan c = s.chan c)
    ∧ (reached → s.cstate c = .running → alone → t.cstate c = .rampdown ∧ (t.chan c).chc.rampCause = .fastStop)
    ∧ (reached → s.cstate c = .rampdown → (s.chan c).chc.rampCause ≠ .fastStop → alone →
        t.cstate c = .rampdown ∧ (t.chan c).chc.rampCause = .fastStop
          ∧ (t.chan c).chc.life = (s.chan c).chc.life)
    ∧ (reached → s.cstate c = .armed → alone → t.cstate c = .armed
        ∧ (t.chan c).chc.life = (s.chan c).chc.life.filter (fun l => l.kind ≠ .run)
        ∧ ((∀ q, s.fastRamping q = false) → ∀ l, (s.chan c).chc.life = some l → l.kind = .run →
            ∀ i, l.slot = some i → s.Completes t i .aborted s.mod.s))
    ∧ (s.cstate c = .disabled ∨ s.cstate c = .calibrating ∨ s.cstate c = .charging ∨ s.cstate c = .tripped →
        t.chan c = s.chan c)
    ∧ (reached → s.fastRamping c = true → s.EnteredTrip t c .stopEscalated 0)
    ∧ (reached → s.fastRamping c = false → (s.cstate c).inService = true →
        ∀ q, s.partner c = some q → s.fastRamping q = true →
        t.cstate c = .tripped ∧ (t.chan c).tru.cause = some .partner ∧ (t.chan c).tru.detail = q.val
        ∧ t.lifeOf c = none ∧ t.noticed .trip = true
        ∧ (s.cstate c = .armed → s.EnteredTrip t c .partner q.val))

/-- From s to t the pending sequence of the highest priority has begun, at its address under the base in force, with
what it writes (R115, R124, R154 to R161, R179): its kind, addresses, written words and position. The answer write has
the ACTIVE form for an order left in flight, whose slot then shows it begun, and the completed form for one that
completed at its take or has ended since (R158, R160). -/
def State.Begins (s t : State) : Prop :=
  let b := s.crw.base
  let begun := t.mpt.seq.map fun x => (x.kind, x.addrs, x.wdata, x.next)
  (s.mpt.pFetch = some none → begun = some (.directory, [b, b + 4, b + 8, b + 12], [], 0))
  ∧ (∀ k, s.mpt.pFetch = some (some k) →
      begun = some (.sheet, wordRun (b + BitVec.ofNat 32 (0x400 + 0x200 * k)) 4, [], 0))
  ∧ (s.mpt.pFetch = none →
    (∀ r, s.mpt.pReport = some r → begun = some (.report r.final,
        wordRun (b + BitVec.ofNat 32 (0xC00 + 0x200 * r.slot)) r.words.length, r.words, 0))
    ∧ (s.mpt.pReport = none →
      (s.mpt.pDump = true → ∀ d, s.tru.dumps.head? = some d → t.tru.dumps = s.tru.dumps.tail
          ∧ begun = some (.dump, wordRun (b + BitVec.ofNat 32 (0x1400 + 0x400 * d.chan.val)) 139,
              d.words (s.chan d.chan).tru.later, 0))
      ∧ (s.mpt.pDump = false →
        (s.mpt.pWalk = some .writeBack → ∀ d, s.exc.writeBack.head? = some d →
          begun = some (.done (d.w0.getLsbD 24), [d.addr + 8, d.addr + 12, d.addr],
            [blockWord2 d.w2 d.result, d.stamp, blockWord0 d.w0 4], 0))
        ∧ (s.mpt.pWalk = some .step → ∀ w, s.exc.walk = some w →
          (w.stage = .pointer → begun = some (.pointer,
              [match s.exc.position with | some a => a + 4 | none => b + 0x0C], [], 0))
          ∧ (∀ a, w.stage = .header a → begun = some (.header, [a, a + 4, a + 8, a + 12], [], 0))
          ∧ (∀ k, w.claimed = some k →
            (w.stage = .claim → begun = some (.claim, [k.addr], [blockWord0 k.w0 2], 0))
            ∧ (w.stage = .body → begun = some (.body, wordRun (k.addr + 16) (bits k.w2 16 8), [], 0))
            ∧ (w.stage = .answer → ∀ r stamp, k.answer = some (.done r stamp) →
                begun = some (.answer (k.w0.getLsbD 24), [k.addr + 8, k.addr + 12, k.addr],
                  [blockWord2 k.w2 r, stamp, blockWord0 k.w0 4], 0)
                  ∧ t.exc.slots = s.exc.slots)
            ∧ (w.stage = .answer → k.answer = some .active →
              ((k.slot = none ∨ ∃ i, k.slot = some i ∧ ∀ o, s.slot i ≠ .held o) →
                begun = some (.answer false, [k.addr], [blockWord0 k.w0 3], 0) ∧ t.exc.slots = s.exc.slots)
              ∧ ∀ i, k.slot = some i → ∀ o, s.slot i = .held o →
                (o.early = none → begun = some (.answer false, [k.addr], [blockWord0 k.w0 3], 0)
                  ∧ t.exc.slots = s.exc.slots.set i (.held { o with begun := true }))
                ∧ ∀ r stamp, o.early = some (r, stamp) →
                  begun = some (.answer (k.w0.getLsbD 24), [k.addr + 8, k.addr + 12, k.addr],
                    [blockWord2 k.w2 r, stamp, blockWord0 k.w0 4], 0)
                  ∧ t.exc.slots = s.exc.slots.set i .writing)))
        ∧ (s.mpt.pWalk = none → ∀ ctx, s.mpt.pCapture = some ctx →
          ∀ e, (s.cap ctx).fifo.head? = some e →
          begun = some (.capture ctx, wordRun ((s.cap ctx).addr
            + BitVec.ofNat 32 (e.number * entrySize (s.cap ctx).mask * 4)) (entrySize (s.cap ctx).mask),
            e.words, 0)))))

/-- A swap of the trip inputs from s to t by the settings k (R111, R112): an input that has become LOW_LEVEL with
action TRIP, or whose route has grown, and whose filtered level is low, trips the channels in service that it routes,
and a partner in service. Where it is the only such input, and no STRICT channel applies an entry at the boundary, the
cause is EXTERNAL with its number, and PARTNER for a partner it does not route. -/
def State.SwapTrips (s t : State) (k : Bank4 XtSet) : Prop :=
  let acts := fun (i : Quad) => (k.get i).proc = .lowLevel ∧ (k.get i).action = .trip
    ∧ (t.tru.xt.get i).level = false
    ∧ ¬ ((s.tru.xt.get i).set.proc = .lowLevel ∧ (s.tru.xt.get i).set.action = .trip
      ∧ ∀ b, b < 8 → (k.get i).route.getLsbD b = true → (s.tru.xt.get i).set.route.getLsbD b = true)
  ∀ (i : Quad) (c : Chan), acts i → (k.get i).route.getLsbD c.val = true → (s.cstate c).inService = true →
    let only := (∀ j, acts j → j = i) ∧ ∀ d, (s.chan d).mod.zeroTaken = true →
      (s.chan d).chc.limits.guard = .lenient ∧ (s.chan d).chc.stLimits = none
    t.cstate c = .tripped ∧ t.noticed .trip = true
    ∧ (only → (t.chan c).tru.cause = some .external ∧ (t.chan c).tru.detail = i.val)
    ∧ ∀ q, s.partner c = some q → (s.cstate q).inService = true → t.cstate q = .tripped
      ∧ (only → (k.get i).route.getLsbD q.val = false →
          (t.chan q).tru.cause = some .partner ∧ (t.chan q).tru.detail = c.val)

/-- No record waits for a boundary and no RUN is in flight. -/
def State.NothingStaged (s : State) : Prop :=
  s.chc.stCarrier = none ∧ s.chc.stDcLink = none ∧ s.chc.stXt = none
    ∧ (∀ i, (s.chc.tables.get i).staged = none)
    ∧ ∀ c, (s.chan c).chc.stGains = none ∧ (s.chan c).chc.stLimits = none
        ∧ ∀ l, (s.chan c).chc.life = some l → l.kind ≠ .run

/-- What a servo boundary from s to t settles for channel c (R142 to R146). RUNNING and QUIESCING: the application
record is the channel's entry of the accepted sheet, if it is in service, else hold; where its zero of the tick has
been taken before, and no carrier restart discards that zero, the application is made at the boundary and the record
is empty again. The miss count follows the table of R142. In every other state records and counts stay. -/
def State.SettlesEntry (s t : State) (c : Chan) : Prop :=
  let x := s.chan c
  let y := t.chan c
  let mask := s.exc.dir.mask.getLsbD c.val
  let e := if mask = true ∧ s.exc.finalTaken = false
    then s.exc.sheet.bind fun z => z.entries.find? fun e => e.chan == c else none
  let taken := x.mod.zeroTaken = true ∧ s.chc.stCarrier = none
  (¬ (s.exc.state = .running ∨ s.exc.state = .quiescing) → y.exc.app = x.exc.app ∧ y.exc.miss = x.exc.miss)
  ∧ (s.exc.state = .running ∨ s.exc.state = .quiescing →
    (y.exc.miss = if s.exc.sheetDue = false then x.exc.miss else if s.isFollower c = true then 0
      else if mask = false then x.exc.miss else if e = none then min 255 (x.exc.miss + 1) else 0)
    ∧ (¬ taken → y.exc.app = (match e with | some z => .entry z | none => .hold) ∧ y.exc.ls = x.exc.ls
      ∧ y.exc.offset = x.exc.offset ∧ y.exc.vdFf = x.exc.vdFf ∧ y.exc.vqFf = x.exc.vqFf)
    ∧ (taken → y.exc.app = .empty ∧ y.mod.index = 0
      ∧ (y.exc.vdFf, y.exc.vqFf) = (e.bind Entry.ff).getD (x.exc.vdFf, x.exc.vqFf)
      ∧ y.exc.ls = (match e.bind Entry.ls with | some z => some z | none => x.exc.ls)
      ∧ y.exc.offset = (e.bind Entry.offset).getD x.exc.offset
      ∧ ((∀ l, s.lifeOf c = some l → l.kind ≠ .run) →
        let q := x.exc.q.demand x.chc.mode.interp x.mod.indexBefore
        let d := x.exc.d.demand x.chc.mode.interp x.mod.indexBefore
        y.exc.q = ⟨q, (e.map Entry.iq).getD q, t.mod.n⟩ ∧ y.exc.d = ⟨d, (e.bind Entry.d).getD d, t.mod.n⟩))
    ∧ (taken → s.NothingStaged → ∀ z, e = some z →
      let angle := z.angle + x.chc.mode.angleOffset
      let tracks := x.chc.state = .armed ∨ x.chc.state = .running ∨ x.chc.state = .rampdown
      let jump := x.exc.angleValid = true ∧ x.chc.limits.jumpLimit
        < (angle - (x.lpe.angle >>> 16).setWidth 16).toInt.natAbs
      (¬ tracks → y.lpe.angle = x.lpe.angle ∧ y.lpe.w = x.lpe.w)
      ∧ (tracks → (∀ d, (s.chan d).mod.zeroTaken = true → (s.chan d).chc.limits.guard = .lenient) →
        y.lpe.angle = angle ++ (0 : BitVec 16) ∧ y.lpe.w = z.w ∧ y.exc.angleValid = true)
      ∧ (tracks → jump → x.chc.limits.guard = .strict → t.cstate c = .tripped ∧ t.noticed .trip = true)))

/-- The slot of the claimed block that a take of this kind takes. -/
def State.takeSlot (s : State) (k : OrderKind) : Option Nat := (s.claimedFor (some k)).bind Claimed.slot

end Sys2Proof.Machine

section

open Sys2Proof Sys2Proof.Machine

/-! ### The step -/

/-- The command at the front of the queue runs on the state with the rest of the queue (log 1). -/
def Obligations.StepRunsFrontCommand : Prop :=
  ∀ (c : Instr) (s : State), step { s with pending := c :: s.pending } = exec c s

/-- With no command waiting: under the reset input nothing happens; else one of the events due joins the queue, or MPT
acts at the port clock edge of the tick; with none left the filters count (R108 to R110), but for those of a channel
that returned to 0 in this tick, and then one tick passes, from which on those count too (logs 1, 2 and 7).
`State.FallsDue` says of every command when it falls due: the clock events (R187, R188), the reference events, zeros
and peaks (R2, R4, R21), compare edges, turn-ons and pulse ends (R12, R14, R15), window ends and filtered events (R107
to R110), conversions, the job and DC samples (R22, R26, R66), ends of sequences, the timeout and the takes of orders
(R157, R181, R184); codes are free values (log 10) and filtered events wait for the tick's counting (log 2). A tick
moves the reference position and the marks of zeros and peaks while the carriers run (R1, R4), the DC sample position
(R26), off-times and pulses (R14, R15), conversions, waits and the job (R20 to R22, R66), the chopper's counter
(R120), the soft-reset hold and the comparator, at 4 ticks a period (R186 to R188, log 4), and the port clock (R179);
and no latch, channel state or order. -/
def Obligations.IdleStep : Prop :=
  ∀ (s : State), s.pending = [] →
    (s.crw.held = true → step s = .next s)
    ∧ (s.crw.held = false → s.due ≠ [] ∨ s.mpt.edge = true →
        (∃ i ∈ s.due, step s = .next { s with pending := [i], draws := s.draws + 1 })
        ∨ (s.mpt.edge = true ∧ step s = .next s.portEdge))
    ∧ (∀ i, i ∈ s.due ↔ s.FallsDue i)
    ∧ (s.crw.held = false → s.due = [] → s.mpt.edge = false → s.counted = false → ∃ t, step s = .next t
      ∧ t = { s with ch := t.ch, tru := { s.tru with xt := t.tru.xt }, counted := true }
      ∧ (∀ i, let x := s.tru.xt.get i
          t.tru.xt.get i = { x with count := if x.raw = x.level then 0 else min x.set.filter (x.count + 1) })
      ∧ (∀ c, let x := s.chan c
          let y := t.chan c
          y = { x with tru := { x.tru with oc := y.tru.oc, gfCount := y.tru.gfCount, gfDue := y.tru.gfDue } }
          ∧ (x.tru.fresh = true → y = x)
          ∧ (x.tru.fresh = false → ∀ leg, let o := x.tru.oc.get leg
              let counts := x.tru.blank = 0 ∧ o.active = true ∧ o.count < x.chc.mode.ocFilter
              let p := y.tru.oc.get leg
              p.active = o.active
              ∧ p.count = (if 0 < x.tru.blank ∨ o.active = false then 0
                  else if counts then o.count + 1 else o.count)
              ∧ p.due = if counts then decide (o.count + 1 = x.chc.mode.ocFilter) else o.due)
          ∧ (x.tru.fresh = false →
            let counts := x.tru.gfLow = true ∧ x.tru.gfCount < x.chc.mode.gfFilter
            y.tru.gfCount = (if x.tru.gfLow = false then 0
              else if counts then x.tru.gfCount + 1 else x.tru.gfCount)
            ∧ y.tru.gfDue = if counts then decide (x.tru.gfCount + 1 = x.chc.mode.gfFilter) else x.tru.gfDue)))
    ∧ (s.crw.held = false → s.due = [] → s.mpt.edge = false → s.counted = true → ∃ t, step s = .next t
      ∧ t.mod.tauRef = (if s.mod.running then (s.mod.tauRef + 1) % (2 * s.mod.p) else s.mod.tauRef)
      ∧ t.mod.refDue = (if s.mod.running then decide (t.mod.tauRef = 0) else s.mod.refDue)
      ∧ t.mod.j = s.mod.j ∧ t.mod.s = s.mod.s ∧ t.mod.p = s.mod.p
      ∧ (∀ c leg, let g := (s.chan c).mod.legs.get leg
          let h := (t.chan c).mod.legs.get leg
          h.want = g.want ∧ h.latchU = g.latchU ∧ h.latchL = g.latchL
          ∧ h.offU = (if g.latchU then g.offU else min 255 (g.offU + 1))
          ∧ h.offL = (if g.latchL then g.offL else min 255 (g.offL + 1)))
      ∧ (∀ c, (t.chan c).chc = (s.chan c).chc ∧ (t.chan c).lpe = (s.chan c).lpe
          ∧ (t.chan c).exc = (s.chan c).exc ∧ (t.chan c).smu = (s.chan c).smu
          ∧ (t.chan c).tru.blank = (if 1 < (s.chan c).tru.blank then (s.chan c).tru.blank - 1
              else (s.chan c).tru.blank)
          ∧ (t.chan c).tru.fresh = false
          ∧ (t.chan c).mod.pulse = (s.chan c).mod.pulse.map (· - 1)
          ∧ (s.mod.running = true → 0 < s.mod.p → (t.chan c).mod.zeroDue = decide (t.count c = 0)
              ∧ (t.chan c).mod.peakDue = decide (t.count c = s.mod.p)))
      ∧ (∀ k, let x := s.conv.get k
          t.conv.get k = ⟨x.busy.map fun y => { y with left := y.left - 1 },
            x.waiting.map fun y => { y with waited := y.waited + 1 }⟩)
      ∧ t.lpe = { s.lpe with engine := s.lpe.engine.map fun j => { j with left := j.left - 1 } }
      ∧ t.link = (if s.mod.running = false then s.link
          else if s.link.pos + 1 < 200 then { s.link with pos := s.link.pos + 1 }
          else { s.link with pos := 0, due := true })
      ∧ t.dls.onTime = (if s.dls.chopper then min 65535 (s.dls.onTime + 1) else s.dls.onTime)
      ∧ t.dls.offTime = (if s.dls.chopper then s.dls.offTime else min 65535 (s.dls.offTime + 1))
      ∧ (let counting := s.crw.clock = .locking ∨ (s.crw.clock ≠ .failed ∧ s.crw.windowOn = true)
        t.crw = { s.crw with
          softHold := s.crw.softHold.map (· - 1),
          refTick := if s.crw.clock = .failed then s.crw.refTick
            else if s.crw.refTick = 3 then 0 else s.crw.refTick + 1,
          refCount := if counting ∧ s.crw.refTick = 3 then s.crw.refCount + 1 else s.crw.refCount,
          tickCount := if counting ∧ s.crw.clock ≠ .locking then s.crw.tickCount + 1 else s.crw.tickCount,
          windowOn := s.crw.windowOn || ((s.crw.clock == .checking || s.crw.clock == .valid)
            && s.crw.refTick == 3) })
      ∧ t.mpt = (if s.mpt.clockOn then { s.mpt with phase := !s.mpt.phase, edge := s.mpt.phase } else s.mpt)
      ∧ t.exc = s.exc ∧ t.chc = s.chc ∧ t.pins = s.pins ∧ t.dls.e = s.dls.e ∧ t.counted = false)

/-- Every command that stands for a command of the part is executed: it answers a next state and leaves the queue. A
term that stands for none faults by name: a known code as an unknown one, a writable register as one that ignores
writes (log 8). A write to any word offset of the window is a command of the part (R189). -/
def Obligations.CommandsNeverStop : Prop :=
  ∀ (s : State) (i : Instr) (code offset data : Word),
    (i.wellFormed = true → ∃ t, exec i s = .next t ∧ t.pending = s.pending)
    ∧ ((code = 1 ∨ code = 2 ∨ code = 3 ∨ code = 4) → exec (.urgentUnknownCode code) s = .fault .notACommand)
    ∧ ((offset = 0x04 ∨ offset = 0x08 ∨ offset = 0x10 ∨ offset = 0x14) →
        exec (.registerWriteIgnored offset data) s = .fault .notACommand)
    ∧ (offset.toNat % 4 = 0 → ∃ t, exec (writeCommand offset data) s = .next t ∧ t.pending = s.pending)

/-- What follows every event changes only what waits at the port, what has been handed over, the readiness to close
and the capture write in flight. It takes nothing away, and it leaves the bus to the next port clock edge (R179). A
requester with nothing waiting and nothing running hands its next sequence to the port: the directory read before the
sheet fetch (R126, R138), the waiting report (R130), a dump while a record is filed, in RUNNING, QUIESCING and
QUIESCED only (R115), a DONE write before the step of the walk (R153, R161), and the older capture head, of two tapped
at one commit that of context 0 (R76, log 19). While QUIESCING the exchange becomes ready to close once every channel
is DISABLED, ARMED or TRIPPED and no walk, slot, write-back or capture is left, and stays so (R149); in every other
state ready is kept. -/
def Obligations.FollowHands : Prop :=
  ∀ (s : State), s.SameButRequests s.follow
    ∧ (∀ q, s.mpt.pends q = true → s.follow.mpt.pends q = true)
    ∧ (∀ q, s.mpt.runs q = true → s.follow.mpt.pends q = s.mpt.pends q)
    ∧ (s.exc.writeBack ≠ [] → s.mpt.isFree .orderWalk = true → s.follow.mpt.pWalk = some .writeBack)
    ∧ (s.mpt.isFree .sheetFetch = true →
      (s.exc.dirWanted = true → s.follow.mpt.pFetch = some none ∧ s.follow.exc.dirWanted = false
        ∧ s.follow.exc.fetch = s.exc.fetch)
      ∧ (s.exc.dirWanted = false → s.exc.fetch = none → s.follow.mpt.pFetch = none ∧ s.follow.exc.fetch = none)
      ∧ (s.exc.dirWanted = false → ∀ f, s.exc.fetch = some f → s.follow.exc.fetch = some { f with handed := true }
        ∧ s.follow.mpt.pFetch = if f.handed then none else some (some f.slot)))
    ∧ (s.mpt.isFree .sheetFetch = false → s.follow.exc.dirWanted = s.exc.dirWanted
      ∧ s.follow.exc.fetch = s.exc.fetch ∧ s.follow.mpt.pFetch = s.mpt.pFetch)
    ∧ (s.exc.reportWaiting = none → s.follow.exc.reportWaiting = none ∧ s.follow.mpt.pReport = s.mpt.pReport)
    ∧ (∀ r, s.exc.reportWaiting = some r →
      if s.mpt.isFree .reportWrite then s.follow.mpt.pReport = some r ∧ s.follow.exc.reportWaiting = none
      else s.follow.mpt.pReport = s.mpt.pReport ∧ s.follow.exc.reportWaiting = some r)
    ∧ (s.mpt.isFree .tripDump = true → (s.follow.mpt.pDump = true ↔ s.tru.dumps ≠ []
      ∧ (s.exc.state = .running ∨ s.exc.state = .quiescing ∨ s.exc.state = .quiesced)))
    ∧ (s.mpt.isFree .orderWalk = true → s.exc.writeBack = [] → s.follow.mpt.pWalk = match s.exc.walk with
      | none => none
      | some w => if w.stage = .take then none else some .step)
    ∧ (s.mpt.isFree .capture = true →
      ((∀ ctx, (s.cap ctx).fifo = []) → s.follow.mpt.pCapture = none ∧ s.follow.lpe = s.lpe)
      ∧ ∀ ctx e, (s.cap ctx).fifo.head? = some e →
        (∀ f, (s.cap !ctx).fifo.head? = some f → e.tap < f.tap ∨ (e.tap = f.tap ∧ ctx = false)) →
        s.follow.mpt.pCapture = some ctx ∧ (s.follow.cap ctx).inFlight = true ∧ s.follow.cap (!ctx) = s.cap !ctx)
    ∧ (s.mpt.isFree .capture = false → s.follow.lpe = s.lpe ∧ s.follow.mpt.pCapture = s.mpt.pCapture)
    ∧ (s.exc.state ≠ .quiescing → s.follow.exc.ready = s.exc.ready)
    ∧ (s.exc.state = .quiescing → (s.follow.exc.ready = true ↔ s.exc.ready = true
      ∨ ((∀ c, s.cstate c = .disabled ∨ s.cstate c = .armed ∨ s.cstate c = .tripped) ∧ s.exc.walk = none
        ∧ (∀ x ∈ s.exc.slots, x = .free) ∧ s.exc.writeBack = [] ∧ s.lpe.cap0.state = .free
        ∧ s.lpe.cap1.state = .free)))

/-! ### Resets and the reset input -/

/-- HARDWARE_RESET: every block holds its reset values, every output is off and the window does not answer (R186).
HARDWARE_RESET_RELEASE: the straps are latched, the base follows BASE_SEL, and attempt 1 begins in LOCKING with all
reset values (R186, R187); without the reset input asserted it is no event (log 1). The pins keep their levels (log
5), and the filtered external levels equal the raw ones from the reset event on (log 34); a FREE capture context holds
the values of log 39, and marks that no table lists are clear (log 49). -/
def Obligations.HardwareReset : Prop :=
  ∀ (s : State) (straps : Straps),
    (∃ t, exec .hardwareReset s = .next t ∧ t.crw.held = true ∧ t.HoldsResetValues
      ∧ t.OutputsOff ∧ (∀ a, readRegister t a = none) ∧ t.dls.e = 0 ∧ t.dls.hot = false
      ∧ t.dls.offTime = 65535 ∧ t.mod.running = false ∧ t.mpt.clockOn = false
      ∧ (∀ c leg, ((t.chan c).mod.legs.get leg).offU = 255 ∧ ((t.chan c).mod.legs.get leg).offL = 255)
      ∧ t.pins = s.pins ∧ (∀ i, (t.tru.xt.get i).raw = (s.tru.xt.get i).raw) ∧ t.pending = s.pending)
    ∧ (s.crw.held = true → ∃ t, exec (.hardwareResetRelease straps) s = .next t
      ∧ t.crw.held = false ∧ t.HoldsResetValues ∧ t.dls.e = 0 ∧ t.dls.hot = false
      ∧ t.crw.straps = straps ∧ t.crw.clock = .locking ∧ t.crw.attempts = 0 ∧ t.crw.softHold = none
      ∧ t.crw.base = BitVec.ofNat 32 (0x00400000 * straps.baseSel.toNat)
      ∧ t.mod.running = false ∧ t.pins = s.pins ∧ t.pending = s.pending)
    ∧ (s.crw.held = false → exec (.hardwareResetRelease straps) s = .next s)

/-- SOFT_RESET: in every exchange and clock state every block takes its soft-reset values for 16 ticks; kept are the
base, the straps, the clock state, attempts and comparator, and E and BRAKE_HOT with the clamp of R117 (R121, R123,
R186). A switch that was on restarts its off-time (R19); carriers run on only if the clock is FAILED.
SOFT_RESET_RELEASE: writes are taken again, and with the clock VALID the timebase starts (R1, R186). The pins keep
their levels (log 5), the filtered external levels equal the raw ones from the reset event on (log 34), a FREE capture
context holds the values of log 39, marks that no table lists are clear (log 49), what VALID during the hold does is
log 32, and a release with no soft reset held is no event (log 1). -/
def Obligations.SoftReset : Prop :=
  ∀ (s : State),
    (s.Open → ∃ t, exec .softReset s = .next t ∧ t.HoldsResetValues
      ∧ t.crw = { s.crw with softHold := some 16, notice := 0, enable := 0, reason := .none }
      ∧ t.dls.e = min s.dls.e 1000000 ∧ t.dls.hot = (s.dls.hot || decide (1000000 ≤ s.dls.e))
      ∧ t.dls.offTime = (if s.dls.chopper then 0 else s.dls.offTime)
      ∧ (∀ c leg, let g := (s.chan c).mod.legs.get leg
          let h := (t.chan c).mod.legs.get leg
          h.offU = (if g.latchU then 0 else g.offU) ∧ h.offL = (if g.latchL then 0 else g.offL))
      ∧ t.mod.running = (s.crw.clock == .failed && s.mod.running)
      ∧ t.pins = s.pins ∧ (∀ i, (t.tru.xt.get i).raw = (s.tru.xt.get i).raw) ∧ t.pending = s.pending)
    ∧ (s.crw.held = false → s.crw.softHold ≠ none →
      ∃ t, exec .softResetRelease s = .next t ∧ t.crw = { s.crw with softHold := none }
      ∧ (s.crw.clock = .valid → t.mod.running = true ∧ t.mod.tauRef = 0 ∧ t.mod.j = 0 ∧ t.mod.s = 0
          ∧ t.link.pos = 0)
      ∧ (s.crw.clock ≠ .valid → t.mod = s.mod ∧ t.link = s.link)
      ∧ (∀ c, (t.chan c).chc = (s.chan c).chc ∧ (t.chan c).lpe = (s.chan c).lpe
          ∧ (t.chan c).mod.legs = (s.chan c).mod.legs)
      ∧ t.exc = s.exc ∧ t.mpt = s.mpt ∧ t.chc = s.chc ∧ t.dls = s.dls ∧ t.pins = s.pins)
    ∧ (s.crw.softHold = none → exec .softResetRelease s = .next s)

/-- The machine just after reset holds the reset values and meets every safety invariant. The levels of straps and
pins, the filtered external levels, the values of a FREE capture context and the marks that no table lists are the
model's choice (logs 3, 5, 34, 39 and 49). -/
def Obligations.ResetIsSafe : Prop :=
  State.reset.HoldsResetValues ∧ State.reset.crw.held = false ∧ State.reset.crw.clock = .locking
    ∧ State.reset.dls.e = 0 ∧ State.reset.dls.hot = false ∧ State.reset.pending = []
    ∧ State.reset.GatesSafe ∧ State.reset.PairsSafe ∧ State.reset.LivesSafe ∧ State.reset.TimeSafe
    ∧ State.reset.LinkSafe ∧ State.reset.BrakeSafe ∧ State.reset.BoundsSafe

/-- The sampling state and the brake at both resets. -/
def Obligations.ResetsOfSamplingAndBrake : Prop :=
  ∀ (s : State),
    (∃ t, exec .hardwareReset s = .next t
      ∧ t.conv = Bank4.const ⟨none, none⟩
      ∧ (∀ c, (t.chan c).smu = ⟨2048, 2048, 0, 0, 0⟩)
      ∧ t.link = ⟨0, false, 0, 53687, 0, 0⟩
      ∧ t.dls = ⟨⟨2048, 12000, 13000, 25000, 26000, 29000, 2000, 2000, 256, 16, 1000000⟩, false, false, false,
          false, 0, 65535, 0, false⟩)
    ∧ (s.Open → ∃ t, exec .softReset s = .next t
      ∧ t.conv = Bank4.const ⟨none, none⟩
      ∧ (∀ c, (t.chan c).smu = ⟨2048, 2048, 0, 0, 0⟩)
      ∧ t.link = ⟨0, false, 0, 53687, 0, 0⟩
      ∧ t.dls = ⟨⟨2048, 12000, 13000, 25000, 26000, 29000, 2000, 2000, 256, 16, 1000000⟩, false, false, false,
          false, 0, if s.dls.chopper then 0 else s.dls.offTime, min s.dls.e 1000000,
          s.dls.hot || decide (1000000 ≤ s.dls.e)⟩)

/-- Under the reset input no command but the two of the reset itself moves anything but the levels of pins (R186).
Between a soft reset and its release, and under the reset input, the writes to the window are ignored (R186). -/
def Obligations.ResetIgnoresCommands : Prop :=
  ∀ (s : State) (i : Instr) (data code : Word),
    (s.crw.held = true → i.wellFormed = true → i ≠ .hardwareReset →
      (∀ straps, i ≠ .hardwareResetRelease straps) → ∃ t, exec i s = .next t
        ∧ t.crw = s.crw ∧ t.mod = s.mod ∧ t.conv = s.conv ∧ t.link = s.link ∧ t.lpe = s.lpe ∧ t.chc = s.chc
        ∧ t.dls = s.dls ∧ t.exc = s.exc ∧ t.mpt = s.mpt
        ∧ t.tru.dumps = s.tru.dumps ∧ t.tru.dumpSeq = s.tru.dumpSeq
        ∧ (∀ k, (t.tru.xt.get k).level = (s.tru.xt.get k).level ∧ (t.tru.xt.get k).set = (s.tru.xt.get k).set)
        ∧ (∀ c, (t.chan c).mod = (s.chan c).mod ∧ (t.chan c).smu = (s.chan c).smu
            ∧ (t.chan c).lpe = (s.chan c).lpe ∧ (t.chan c).chc = (s.chan c).chc
            ∧ (t.chan c).exc = (s.chan c).exc ∧ (t.chan c).tru.cause = (s.chan c).tru.cause
            ∧ (t.chan c).tru.detail = (s.chan c).tru.detail ∧ (t.chan c).tru.later = (s.chan c).tru.later
            ∧ (t.chan c).tru.action = (s.chan c).tru.action ∧ (t.chan c).tru.blank = (s.chan c).tru.blank))
    ∧ (¬ s.Open → code ≠ 1 ∧ code ≠ 2 ∧ code ≠ 3 ∧ code ≠ 4 →
        ∀ w ∈ [Instr.go, .quiesce, .fastStop, .softReset, .urgentUnknownCode code, .regionBaseWrite data,
          .noticeWrite data, .noticeEnableWrite data], exec w s = .next s)

/-! ### The clock check -/

/-- LOCK_INDICATED and LOCK_TIMEOUT in LOCKING, and the comparator in CHECKING and, passing, in VALID (R187, R188):
the window of CHECKING waits for its first reference edge, a passing one ends where the next begins (log 4), and the
entry to VALID sets the port clock edges from that tick (R179). In every other clock state these events change nothing
(log 1); VALID entered during a soft-reset hold leaves the timebase to the release (log 32). -/
def Obligations.ClockCheck : Prop :=
  ∀ (s : State) (ticks : Nat), s.crw.held = false →
    (s.crw.clock = .locking →
      (exec .lockIndicated s = .next
        { s with crw := { s.crw with clock := .checking, refCount := 0, tickCount := 0, windowOn := false } })
      ∧ (∃ t, exec .lockTimeout s = .next t ∧ s.AttemptFailed t)
      ∧ exec (.comparatorWindowEnd ticks) s = .next s ∧ exec .tickCountOverrun s = .next s)
    ∧ (s.crw.clock = .checking →
      exec .lockIndicated s = .next s ∧ exec .lockTimeout s = .next s
      ∧ (∃ t, exec .tickCountOverrun s = .next t ∧ s.AttemptFailed t)
      ∧ (¬ (7992 ≤ ticks ∧ ticks ≤ 8008) →
          ∃ t, exec (.comparatorWindowEnd ticks) s = .next t ∧ s.AttemptFailed t)
      ∧ (7992 ≤ ticks ∧ ticks ≤ 8008 → ∃ t, exec (.comparatorWindowEnd ticks) s = .next t
          ∧ t.crw = { s.crw with clock := .valid, refCount := 0, tickCount := 0, windowOn := true, refTick := 0 }
          ∧ t.mpt = { s.mpt with clockOn := true, phase := false, edge := true }
          ∧ (s.crw.softHold = none → t.mod.running = true ∧ t.mod.tauRef = 0 ∧ t.mod.j = 0
              ∧ t.mod.s = 0 ∧ t.link.pos = 0)
          ∧ (s.crw.softHold ≠ none → t.mod = s.mod)
          ∧ (∀ c, (t.chan c).chc = (s.chan c).chc) ∧ t.exc = s.exc))
    ∧ (s.crw.clock = .valid →
      exec .lockIndicated s = .next s ∧ exec .lockTimeout s = .next s
      ∧ (7992 ≤ ticks ∧ ticks ≤ 8008 → exec (.comparatorWindowEnd ticks) s = .next
          { s with crw := { s.crw with refCount := 0, tickCount := 0, windowOn := true, refTick := 0 } }))
    ∧ (s.crw.clock = .failed →
      exec .lockIndicated s = .next s ∧ exec .lockTimeout s = .next s
      ∧ exec .tickCountOverrun s = .next s ∧ exec (.comparatorWindowEnd ticks) s = .next s)

/-- A clock failure in VALID: FAILED, the CLOCK notice, a CLOCK trip of every channel in service (the lifecycle orders
and captures dropped), and the exchange STOPPED with its orders dropped without completion (R131, R188). The trips
come first (log 31), and a report snapshot that still waits is dropped uncounted (log 50). -/
def Obligations.ClockFailure : Prop :=
  ∀ (s : State) (ticks : Nat), s.crw.held = false → s.crw.clock = .valid → s.PairsSafe →
    ¬ (7992 ≤ ticks ∧ ticks ≤ 8008) →
    ∃ t, exec (.comparatorWindowEnd ticks) s = .next t ∧ exec .tickCountOverrun s = .next t
      ∧ t.crw.clock = .failed ∧ t.noticed .clock = true
      ∧ s.TripOutcome t Chan.all .clock 0
      ∧ t.exc.state = .stopped ∧ t.exc.walk = none ∧ t.exc.writeBack = [] ∧ t.exc.sheet = none
      ∧ t.exc.fetch = none ∧ t.exc.reportWaiting = none ∧ (∀ i, t.slot i = .free)
      ∧ t.lpe.cap0.state = .free ∧ t.lpe.cap1.state = .free ∧ (∀ c, (t.chan c).chc.life = none)
      ∧ t.mod.running = s.mod.running ∧ t.mod.s = s.mod.s ∧ t.link = s.link ∧ t.dls = s.dls

/-! ### The register window -/

/-- Every rejected write sets REJECTED with its reason and changes nothing else: GO, QUIESCE and REGION_BASE in a
state that does not take them, and an unknown code; a QUIESCE while QUIESCING does nothing (R126, R129, R190). -/
def Obligations.WritesRejected : Prop :=
  ∀ (s : State) (data code : Word), s.Open →
    (¬ ((s.exc.state = .stopped ∧ s.crw.clock = .valid) ∨ s.exc.state = .quiesced) →
      exec .go s = .next (s.rejected .goState))
    ∧ (s.exc.state = .stopped ∨ s.exc.state = .starting ∨ s.exc.state = .quiesced →
      exec .quiesce s = .next (s.rejected .quiesceState))
    ∧ (s.exc.state = .quiescing → exec .quiesce s = .next s)
    ∧ (s.exc.state = .starting ∨ s.exc.state = .running ∨ s.exc.state = .quiescing →
      exec (.regionBaseWrite data) s = .next (s.rejected .baseState))
    ∧ (code ≠ 1 ∧ code ≠ 2 ∧ code ≠ 3 ∧ code ≠ 4 →
      exec (.urgentUnknownCode code) s = .next (s.rejected .unknownCode))

/-- The writes that are taken. GO in STOPPED with the clock VALID and in QUIESCED: STARTING, and the directory read is
requested; a trip dump that has not begun waits for the restart (R126, R128). REGION_BASE is replaced in STOPPED and
QUIESCED, with its low 14 bits 0; a NOTICE bit is cleared where 0 is written and stays where 1 is written;
NOTICE_ENABLE is replaced; a write to any other offset changes nothing (R189 to R191). `writeCommand` is the map from
a write to its command: the four codes of URGENT, any other value, and the registers (R189, R190). The pending dump is
withdrawn (log 25). -/
def Obligations.WritesTaken : Prop :=
  ∀ (s : State) (data offset : Word), s.Open →
    ((s.exc.state = .stopped ∧ s.crw.clock = .valid) ∨ s.exc.state = .quiesced →
      exec .go s = .next ({ s with
        exc := { s.exc with state := .starting, dirWanted := true },
        mpt := { s.mpt with pDump := false } } : State).follow)
    ∧ (s.exc.state = .stopped ∨ s.exc.state = .quiesced →
      ∃ t, exec (.regionBaseWrite data) s = .next t ∧ t = { s with crw := { s.crw with base := t.crw.base } }
        ∧ ∀ i, i < 32 → t.crw.base.getLsbD i = (decide (14 ≤ i) && data.getLsbD i))
    ∧ (∃ t, exec (.noticeWrite data) s = .next t ∧ t = { s with crw := { s.crw with notice := t.crw.notice } }
        ∧ ∀ i, i < 8 → t.crw.notice.getLsbD i = (s.crw.notice.getLsbD i && data.getLsbD i))
    ∧ (∃ t, exec (.noticeEnableWrite data) s = .next t
        ∧ t = { s with crw := { s.crw with enable := t.crw.enable } }
        ∧ ∀ i, i < 8 → t.crw.enable.getLsbD i = data.getLsbD i)
    ∧ (offset ≠ 0x04 ∧ offset ≠ 0x08 ∧ offset ≠ 0x10 ∧ offset ≠ 0x14 →
      exec (.registerWriteIgnored offset data) s = .next s
      ∧ writeCommand offset data = .registerWriteIgnored offset data)
    ∧ writeCommand 0x04 data = .regionBaseWrite data ∧ writeCommand 0x10 data = .noticeWrite data
    ∧ writeCommand 0x14 data = .noticeEnableWrite data
    ∧ writeCommand 0x08 1 = .go ∧ writeCommand 0x08 2 = .quiesce ∧ writeCommand 0x08 3 = .fastStop
    ∧ writeCommand 0x08 4 = .softReset
    ∧ (data ≠ 1 ∧ data ≠ 2 ∧ data ≠ 3 ∧ data ≠ 4 → writeCommand 0x08 data = .urgentUnknownCode data)

/-- What the registers read, bit field by bit field, and the notice line: asserted exactly while a set notice bit is
enabled (R189, R191). Bits that the table gives no field read 0 (log 52). -/
def Obligations.RegisterReads : Prop :=
  ∀ (s : State), s.crw.held = false →
    readRegister s 0x00 = some 0xE4146081 ∧ readRegister s 0x04 = some s.crw.base
    ∧ readRegister s 0x08 = some 0
    ∧ (∃ w, readRegister s 0x0C = some w
        ∧ bits w 0 4 = s.exc.state.code ∧ bits w 4 2 = s.crw.clock.code
        ∧ w.getLsbD 6 = s.exc.halted ∧ w.getLsbD 7 = false ∧ bits w 8 4 = s.crw.reason.code
        ∧ bits w 12 4 = 0 ∧ bits w 16 16 = s.mod.s.toNat % 65536)
    ∧ (∃ w, readRegister s 0x10 = some w ∧ w.toNat = s.crw.notice.toNat)
    ∧ (∃ w, readRegister s 0x14 = some w ∧ w.toNat = s.crw.enable.toNat)
    ∧ (s.noticeLine = true ↔ ∃ i, i < 8 ∧ s.crw.notice.getLsbD i = true ∧ s.crw.enable.getLsbD i = true)

/-- QUIESCE in RUNNING: QUIESCING, RUNNING channels ramp down with cause QUIESCE, a START in flight ends ABORTED with
its channels DISABLED, a RUN ends ABORTED, a STOP goes on, and no capture stays ACTIVE or DRAINING (R101, R129). -/
def Obligations.QuiesceEnters : Prop :=
  ∀ (s : State), s.Open → s.exc.state = .running → s.PairsSafe → s.LivesSafe →
    ∃ t, exec .quiesce s = .next t ∧ t.exc.state = .quiescing
      ∧ (∀ c, t.cstate c = (match s.lifeOf c with
          | some ⟨.start, _, _⟩ => .disabled
          | some ⟨.run, _, _⟩ | some ⟨.stop, _, _⟩ | none =>
            if s.cstate c = .running then .rampdown else s.cstate c))
      ∧ (∀ c, s.cstate c = .running → (t.chan c).chc.rampCause = .quiesce)
      ∧ (∀ c, (t.chan c).chc.life = (s.chan c).chc.life.filter fun l => l.kind = .stop)
      ∧ (∀ c, ∀ l, (s.chan c).chc.life = some l → l.kind ≠ .stop → ∀ i, l.slot = some i →
          s.Completes t i .aborted s.mod.s)
      ∧ (∀ ctx, (t.cap ctx).state = .free ∨ (t.cap ctx).state = .ending)
      ∧ t.exc.sheet = s.exc.sheet ∧ t.crw = s.crw ∧ t.mod = s.mod ∧ t.tru = s.tru ∧ t.dls = s.dls

/-- FAST_STOP acts on every channel by its state (R100): RUNNING ramps down fast, RAMPDOWN turns to the fast step with
its STOP going on, a RUN in flight ends with its channel ARMED, a fast RAMPDOWN trips with STOP_ESCALATED, and every
other state is left. A channel whose partner alone is in fast RAMPDOWN, ARMED or in RAMPDOWN with another cause, trips
with PARTNER and the partner's number (R96, R106). Members of a pair escalate in one event (log 17). -/
def Obligations.FastStop : Prop :=
  ∀ (s : State), s.Open → s.PairsSafe → s.LivesSafe →
    ∃ t, exec .fastStop s = .next t ∧ t.exc.state = s.exc.state ∧ t.mod = s.mod ∧ t.dls = s.dls
      ∧ s.StopOutcome t Chan.all

/-! ### The timebase -/

/-- The reference events. REFERENCE_ZERO advances the servo position within the cycle (R2). FETCH_POINT stands at N -
L and, while sheets are fetched, requests the sheet of the next boundary: slot (last stamp + 1) mod 4, or slot 0
before the first sheet since GO (R2, R138). With the carriers stopped there is no event of the timebase and no DC
sample (R1, R26). The commands set the servo position (log 35). -/
def Obligations.ReferenceEvents : Prop :=
  ∀ (s : State) (c : Chan) (raw : BitVec 12), s.crw.held = false →
    (s.mod.running = true → s.mod.j + 1 < s.mod.n →
      exec .referenceZero s = .next { s with mod := { s.mod with j := s.mod.j + 1, refDue := false } })
    ∧ (s.mod.running = true → ∃ t, exec .fetchPoint s = .next t
        ∧ t.mod = { s.mod with j := s.mod.n - s.mod.l, refDue := false, fetchDue := false }
        ∧ ((s.exc.state = .running ∨ s.exc.state = .quiescing) → s.exc.finalTaken = false →
            t.exc.sheetDue = true
            ∧ ∃ f, t.exc.fetch = some f
                ∧ f.slot = if s.exc.sinceGo then (s.exc.lastStamp.toNat + 1) % 4 else 0)
        ∧ (s.exc.state = .stopped ∨ s.exc.state = .starting ∨ s.exc.state = .quiesced →
            t.exc.sheetDue = s.exc.sheetDue)
        ∧ t.chc = s.chc ∧ t.ch = s.ch ∧ t.crw = s.crw ∧ t.tru = s.tru ∧ t.dls = s.dls ∧ t.link = s.link)
    ∧ (s.mod.running = false → exec .referenceZero s = .next s ∧ exec .fetchPoint s = .next s
        ∧ exec .servoBoundary s = .next s ∧ exec (.carrierZero c) s = .next s
        ∧ exec (.carrierPeak c) s = .next s ∧ exec (.dcSample raw) s = .next s)

/-- CARRIER_PEAK triggers the channel's converter: an idle one converts with skew 0 for 100 ticks, another channel's
conversion makes the trigger wait, and a channel's own trigger still running or any that waits drops it (R20, R21). A
DISABLED channel triggers nothing. -/
def Obligations.CarrierPeak : Prop :=
  ∀ (s : State) (c : Chan), s.crw.held = false → s.mod.running = true →
    ∃ t, exec (.carrierPeak c) s = .next t
      ∧ (({ s with conv := t.conv } : State).SameButChannels t)
      ∧ (∀ d, d ≠ c → t.chan d = s.chan d)
      ∧ (∀ k : Quad, k.val ≠ c.val % 4 → t.conv.get k = s.conv.get k)
      ∧ (∀ k : Quad, k.val = c.val % 4 →
          t.conv.get k =
            if s.cstate c = .disabled then s.conv.get k
            else match (s.conv.get k).busy, (s.conv.get k).waiting with
              | none, w => ⟨some ⟨c, 0, 100, (s.chan c).mod.periodCount, false, false⟩, w⟩
              | some x, none =>
                if x.chan = c then s.conv.get k
                else ⟨some x, some ⟨c, 0, (s.chan c).mod.periodCount, false⟩⟩
              | some x, some w => ⟨some x, some w⟩)

/-- CARRIER_ZERO without an entry to apply. The period count grows and the period index advances, 0 at the first zero
of a servo cycle and held at N - 1 (R5); the angle advances by w in ARMED, RUNNING and RAMPDOWN (R11); a fresh shadow
comes into force or the missing job is counted (R9); the period of a job that has ended or will end with SOFT_OC counts
as one without a job, once, in every channel state (R40, log 54); a charge pulse starts while pulses remain (R15);
every leg follows its want at count 0 (R12 to R16); a held record's demands stay at the value reached (R143, R145). The
zero is the deadline of the channel's sets: one on the ready list leaves it and counts as late, conversions and
triggers of the channel under way and its job in hand are marked late (R67). Other channels are left alone. The zero
stands for count 0 (log 35), and the period index counts on from 0 until the first boundary (log 44). -/
def Obligations.CarrierZero : Prop :=
  ∀ (s : State) (c : Chan), s.crw.held = false → s.mod.running = true →
    (s.chan c).exc.app.isEntry = false →
    ∃ t, exec (.carrierZero c) s = .next t ∧ s.ZeroActs t c
      ∧ (let x := s.chan c
        let y := t.chan c
        y.lpe.angle = (if x.chc.state = .armed ∨ x.chc.state = .running ∨ x.chc.state = .rampdown
            then x.lpe.angle + x.lpe.w else x.lpe.angle)
        ∧ y.lpe.w = x.lpe.w
        ∧ y.exc.app = .empty ∧ y.exc.q.demand x.chc.mode.interp y.mod.index =
            (if x.exc.app = .hold then x.qDemand else x.exc.q.demand x.chc.mode.interp y.mod.index)
        ∧ y.exc.d.demand x.chc.mode.interp y.mod.index =
            (if x.exc.app = .hold then x.dDemand else x.exc.d.demand x.chc.mode.interp y.mod.index))

/-- CARRIER_ZERO with an entry to apply. Demands and held fields follow the entry, the value reached becoming the
previous one (R145, R146); in ARMED, RUNNING and RAMPDOWN the angle and speed are the entry's (R144), and a jump
beyond the limit is counted, tripping a STRICT channel with ANGLE_JUMP, its gates then as its trip action says (R10,
R13, R104, R106). Otherwise the zero does all that one without an entry does: period count and index (R5), compares or
missing job (R9), the period of a SOFT_OC job counted as one without a job in every channel state (R40, log 54), charge
pulse (R15), wants and latches at count 0 (R12 to R16), and the deadline of the channel's sets (R67); a trip leaves the
counts and the deadline. The zero stands for count 0 (log 35), and the period index counts on from 0 until the first
boundary (log 44). -/
def Obligations.CarrierZeroAppliesEntry : Prop :=
  ∀ (s : State) (c : Chan) (e : Entry), s.crw.held = false → s.mod.running = true → s.PairsSafe →
    (s.chan c).exc.app = .entry e →
    ∃ t, exec (.carrierZero c) s = .next t
      ∧ (let x := s.chan c
        let y := t.chan c
        let angle := e.angle + x.chc.mode.angleOffset
        let tracks := x.chc.state = .armed ∨ x.chc.state = .running ∨ x.chc.state = .rampdown
        let jump := x.exc.angleValid = true ∧ x.chc.limits.jumpLimit
          < (angle - ((x.lpe.angle + x.lpe.w) >>> 16).setWidth 16).toInt.natAbs
        y.exc.q = ⟨x.qDemand, e.iq, s.mod.n⟩ ∧ y.exc.d = ⟨x.dDemand, e.d.getD x.dDemand, s.mod.n⟩
        ∧ y.exc.app = .empty
        ∧ (y.exc.vdFf, y.exc.vqFf) = e.ff.getD (x.exc.vdFf, x.exc.vqFf)
        ∧ y.exc.ls = (if e.ls.isSome then e.ls else x.exc.ls) ∧ y.exc.offset = e.offset.getD x.exc.offset
        ∧ (tracks → y.lpe.angle = angle ++ (0 : BitVec 16) ∧ y.lpe.w = e.w)
        ∧ (¬ tracks → y.lpe.angle = x.lpe.angle ∧ y.lpe.w = x.lpe.w)
        ∧ t.exc.counters.jumps =
            (if tracks ∧ jump then min 65535 (s.exc.counters.jumps + 1) else s.exc.counters.jumps)
        ∧ s.ZeroCounts t c
        ∧ (tracks ∧ jump ∧ x.chc.limits.guard = .strict → s.TripOutcome t [c] .angleJump 0
            ∧ y.mod.shadow = none ∧ (∀ leg, y.mod.active.get leg = (s.mod.p + 1) / 2
              ∧ (y.mod.legs.get leg).latchU = false
              ∧ (y.mod.legs.get leg).want = if x.chc.mode.tripAction = .lowShort then .lower else .none))
        ∧ (¬ (tracks ∧ jump ∧ x.chc.limits.guard = .strict) → s.ZeroActs t c
            ∧ (tracks → y.exc.angleValid = true)))

/-- SERVO_BOUNDARY: S is counted, the cycle starts at position 0 under the pending N and L (R2, R3), every staged
record is in force and none is left (R99), no RUN is left in flight (R87), and the cycle's statistics start anew (R30,
R71). A new DC record clamps E, sets BRAKE_HOT and turns the chopper off where E has reached the limit, its other
counters kept (R117). New trip inputs keep the filtered levels, a count at or above the new setting making the raw
level the filtered one at once, and an input newly LOW_LEVEL or routed further, while low, trips the channels it
routes (R111, R112, log 18). A carrier restart empties the shadows, makes the active compares neutral, marks the zeros
of offset 0, and passes every deadline: waiting sets leave the list and count as late, conversions and the job are
late (R6, R67, log 13). The orders that wait on the records, and hold no lifecycle order or capture, complete with the
result fixed at their take, the new S as stamp (R98, R161). The period of a SOFT_OC job still counts at its zero (R40,
log 54). The order of the parts of the boundary is free (log 9), so that a LATE flag of the restart belongs to either
cycle. -/
def Obligations.ServoBoundary : Prop :=
  ∀ (s : State), s.crw.held = false → s.mod.running = true → s.PairsSafe → s.LivesSafe →
    ∃ t, exec .servoBoundary s = .next t
      ∧ t.mod.s = s.mod.s + 1 ∧ t.mod.j = 0 ∧ t.mod.running = true
      ∧ (t.mod.n, t.mod.l) = s.mod.pendingNL.getD (s.mod.n, s.mod.l) ∧ t.mod.pendingNL = none
      ∧ t.mod.p = (match s.chc.stCarrier with | some x => x.value.p | none => s.mod.p)
      ∧ t.mod.tauRef = (match s.chc.stCarrier with | some _ => 0 | none => s.mod.tauRef)
      ∧ t.dls = (match s.chc.stDcLink with
          | none => s.dls
          | some x =>
            let hits := decide (x.value.eLim ≤ s.dls.e)
            { s.dls with dc := x.value, e := min s.dls.e x.value.eLim, hot := s.dls.hot || hits,
                         chopper := s.dls.chopper && !hits,
                         offTime := if s.dls.chopper && hits then 0 else s.dls.offTime })
      ∧ (∀ i, let o := s.tru.xt.get i
          t.tru.xt.get i = match s.chc.stXt with
          | none => o
          | some x =>
            let k := x.value.get i
            if o.count < k.filter then { o with set := k } else { o with set := k, level := o.raw, count := 0 })
      ∧ (∀ x, s.chc.stXt = some x → s.SwapTrips t x.value)
      ∧ (∀ i, (t.chc.tables.get i).staged = none ∧ (t.chc.tables.get i).active =
          match (s.chc.tables.get i).staged with
          | some x => x.value
          | none => (s.chc.tables.get i).active)
      ∧ t.chc.stCarrier = none ∧ t.chc.stDcLink = none ∧ t.chc.stXt = none ∧ t.chc.pairs = s.chc.pairs
      ∧ (∀ c, let x := s.chan c
          let y := t.chan c
          y.chc.gains = (match x.chc.stGains with | some z => z.value | none => x.chc.gains)
          ∧ y.chc.limits = (match x.chc.stLimits with | some z => z.value | none => x.chc.limits)
          ∧ y.chc.stGains = none ∧ y.chc.stLimits = none ∧ y.chc.mode = x.chc.mode
          ∧ y.mod.offset = (match s.chc.stCarrier with | some z => z.value.offsets.get c | none => x.mod.offset)
          ∧ y.mod.periodCount = x.mod.periodCount ∧ { y.lpe.stats with late := false } = Stats.clear
          ∧ y.lpe.noJobDue = x.lpe.noJobDue
          ∧ (y.lpe.stats.late = true → s.chc.stCarrier ≠ none ∧ ∃ z ∈ s.lpe.ready, z.chan = c)
          ∧ (s.chc.stCarrier = none → y.lpe.lateTotal = x.lpe.lateTotal)
          ∧ (∀ z, s.chc.stCarrier = some z → y.mod.shadow = none
              ∧ (∀ leg, y.mod.active.get leg = (z.value.p + 1) / 2)
              ∧ (0 < z.value.p → z.value.offsets.get c < 2 * z.value.p →
                  y.mod.zeroDue = decide (z.value.offsets.get c = 0))
              ∧ y.lpe.lateTotal = (if ∃ q ∈ s.lpe.ready, q.chan = c then min 65535 (x.lpe.lateTotal + 1)
                  else x.lpe.lateTotal))
          ∧ (∀ l, y.chc.life = some l → l.kind ≠ .run ∧ x.chc.life = some l)
          ∧ (y.chc.state = .running → x.chc.state = .running ∨ ∃ l, s.lifeOf c = some l ∧ l.kind = .run))
      ∧ t.link = { s.link with cycSum := 0, cycCount := 0 }
      ∧ (s.chc.stCarrier = none → t.lpe.ready = s.lpe.ready ∧ t.conv = s.conv)
      ∧ (s.chc.stCarrier ≠ none → t.lpe.ready = []
          ∧ (∀ j, t.lpe.engine = some j → j.late = true)
          ∧ (∀ k x, (t.conv.get k).busy = some x → x.late = true)
          ∧ (∀ k x, (t.conv.get k).waiting = some x → x.late = true))
      ∧ (∀ i ∈ s.stagedSlots, (∀ c l, (s.chan c).chc.life = some l → l.slot ≠ some i) →
          s.lpe.cap0.slot ≠ some i → s.lpe.cap1.slot ≠ some i → ∀ o, s.slot i = .held o →
            s.Completes t i o.fixed (s.mod.s + 1))

/-- A RUN in flight enters at the boundary: both members of a pair, or the channel, are RUNNING with loop state and
ramp cause cleared and interpolating from 0, toward the entry's demands where the zero that applies it has been taken
at this tick, else toward 0 (R63, R80, R87), and the RUN ends OK (R161). Premises: nothing else at that boundary acts
on channels (no swap of trip inputs, no low FAST_STOP input, no loss of demand, no STRICT channel whose zero of the
tick has been taken), and nothing else holds the RUN's slot. -/
def Obligations.RunEntersAtBoundary : Prop :=
  ∀ (s : State) (c : Chan), s.crw.held = false → s.mod.running = true → s.PairsSafe → s.LivesSafe →
    (∃ l, s.lifeOf c = some l ∧ l.kind = .run) → s.chc.stXt = none →
    (∀ i, (s.tru.xt.get i).actsLow .fastStop = false) → (∀ d, s.missAfter d < s.exc.dir.k) →
    (∀ d, (s.chan d).mod.zeroTaken = true →
      (s.chan d).chc.limits.guard = .lenient ∧ (s.chan d).chc.stLimits = none) →
    ∃ t, exec .servoBoundary s = .next t ∧ t.lifeOf c = none
      ∧ (let y := t.chan c
        let e := if (s.chan c).mod.zeroTaken = true ∧ s.exc.cyclic = true ∧ s.chc.stCarrier = none
          then s.newEntry c else none
        y.chc.state = .running ∧ y.chc.rampCause = .none ∧ y.lpe.iD = 0 ∧ y.lpe.iQ = 0 ∧ y.lpe.idRef = 0
        ∧ y.lpe.iqRef = 0 ∧ y.lpe.vd = 0 ∧ y.lpe.vq = 0 ∧ y.exc.q.prev = 0 ∧ y.exc.d.prev = 0
        ∧ y.exc.q.target = (e.map Entry.iq).getD 0 ∧ y.exc.d.target = (e.bind Entry.d).getD 0)
      ∧ (∀ l, s.lifeOf c = some l → ∀ i, l.slot = some i → i ∉ s.stagedSlots →
          (∀ d m, (s.chan d).chc.life = some m → m.slot = some i → d = s.leaderOf c) →
          s.Completes t i .ok (s.mod.s + 1))

/-- A loss of demand: at a boundary with a sheet due, a RUNNING channel in the mask whose misses reach K ramps down
with DEMAND_LOSS, as does its follower, and the DEMAND notice is raised when the count becomes exactly K (R91, R142).
Premises: nothing else at that boundary acts on channels. Losses are judged with a sheet due only (log 28). -/
def Obligations.DemandLossRampsDown : Prop :=
  ∀ (s : State) (c m : Chan), s.crw.held = false → s.mod.running = true → s.PairsSafe → s.LivesSafe →
    s.exc.cyclic = true → s.exc.sheetDue = true → s.exc.dir.mask.getLsbD c.val = true →
    s.exc.dir.k ≤ s.missAfter c → 0 < s.exc.dir.k → s.cstate c = .running → m ∈ s.members c →
    s.chc.stXt = none → (∀ i, (s.tru.xt.get i).actsLow .fastStop = false) →
    (∀ d, (s.chan d).mod.zeroTaken = false) →
    ∃ t, exec .servoBoundary s = .next t
      ∧ t.cstate m = .rampdown ∧ (t.chan m).chc.rampCause = .demandLoss
      ∧ (t.chan c).exc.miss = s.missAfter c
      ∧ (s.missAfter c = s.exc.dir.k → (s.chan c).exc.miss ≠ s.exc.dir.k → t.noticed .demand = true)

/-- Every boundary while sheets are applied takes a report of the cycle that ends: 60 words for slot S mod 4, with S
as head and tail, the final one when the exchange was ready to close (R130, R135, R148); and in RUNNING a walk is
under way afterwards unless the walker is halted (R153). With no record staged and no RUN in flight the report shows
the items of R148 at their places: stamps and marks, position, states, counters, averages, and each channel's block
with its statistics of the cycle (R30, R71, R135). A snapshot that is replaced counts as a failure before this one is
formed (log 26). In RUNNING and QUIESCING the application record of every channel becomes its entry of the accepted
sheet or hold (R142), and hold after the final snapshot (log 47); with a sheet due the miss count of a channel in the
mask grows by one, up to 255, without an entry and is 0 with one, and a follower's is 0 (R142), and the record of a
channel whose zero of this tick has been taken, and is not discarded by a carrier restart, is applied at once (R143 to
R146, log 9). The report is taken after the demand losses and these applications, and shows what they change (log 41).
-/
def Obligations.BoundaryReports : Prop :=
  ∀ (s : State), s.crw.held = false → s.mod.running = true → s.PairsSafe → s.LivesSafe →
    ∃ t, exec .servoBoundary s = .next t
      ∧ (s.exc.cyclic = true → t.exc.sheet = none ∧ t.exc.sheetDue = false ∧ t.exc.fetch = none
          ∧ ∃ r, (t.exc.reportWaiting = some r ∨ t.mpt.pReport = some r)
            ∧ r.words.length = 60 ∧ r.words.head? = some s.mod.s ∧ r.words.getLast? = some s.mod.s
            ∧ r.slot = s.mod.s.toNat % 4
            ∧ r.final = (s.exc.state == .quiescing && s.exc.ready)
            ∧ (s.NothingStaged → s.ReportShows t r))
      ∧ (∀ c, s.SettlesEntry t c)
      ∧ (s.exc.state = .running → s.exc.halted = false → t.exc.walk.isSome = true)
      ∧ (s.exc.state ≠ .running → t.exc.walk = s.exc.walk)
      ∧ t.exc.state = s.exc.state ∧ t.exc.position = s.exc.position

/-! ### Gates -/

/-- COMPARE_EDGE of a modulated leg: it wants its lower switch from the rising count on, its upper one from the
falling count on, and the latches of that leg follow under the deadtime and PERMIT (R12, R14, R17). The other legs,
whose own edges may still be to come in the tick, and the other channels are left alone. The want is the one that the
command's direction names (log 35), and the edge of a leg held still, or not modulated, changes nothing (log 1). -/
def Obligations.CompareEdge : Prop :=
  ∀ (s : State) (c : Chan) (leg : Leg) (rising : Bool), s.crw.held = false →
    let cmp := (s.chan c).mod.active.get leg
    ((s.cstate c = .running ∨ s.cstate c = .rampdown) → 0 < cmp → cmp < s.mod.p →
      ∃ t, exec (.compareEdge c leg rising) s = .next t ∧ s.SameButChannels t
        ∧ (∀ d, d ≠ c → t.chan d = s.chan d)
        ∧ (s.chan c).LegFollows s.pins.permit s.mod.p leg (if rising then .lower else .upper) (t.chan c))
    ∧ ((s.cstate c ≠ .running ∧ s.cstate c ≠ .rampdown) ∨ cmp = 0 ∨ s.mod.p ≤ cmp →
        exec (.compareEdge c leg rising) s = .next s)

/-- DEADTIME_ELAPSED for the switch that the leg wants: the leg follows its want, so the switch is on if PERMIT is
active and its complement has been off for the effective deadtime (R7, R14, R17); a switch not wanted is left alone.
-/
def Obligations.DeadtimeElapsed : Prop :=
  ∀ (s : State) (c : Chan) (leg : Leg) (upper : Bool), s.crw.held = false →
    let x := s.chan c
    let g := x.mod.legs.get leg
    (g.want = (if upper then .upper else .lower) →
      ∃ t, exec (.deadtimeElapsed c leg upper) s = .next t ∧ s.SameButChannels t
        ∧ (∀ d, d ≠ c → t.chan d = s.chan d)
        ∧ effDeadtime x.chc.mode s.mod.p = min x.chc.mode.deadtime (s.mod.p / 4)
        ∧ x.LegFollows s.pins.permit s.mod.p leg g.want (t.chan c))
    ∧ (g.want ≠ (if upper then .upper else .lower) → exec (.deadtimeElapsed c leg upper) s = .next s)

/-- CHARGE_PULSE_END: the three lower switches are off and the count falls; while pulses remain nothing else happens,
and after the last one the channel is ARMED and its START ends OK, for a pair with the second member (R15, R84).
Without a pulse there is no event (log 1). -/
def Obligations.ChargePulseEnd : Prop :=
  ∀ (s : State) (c : Chan), s.crw.held = false → s.PairsSafe → s.LivesSafe →
    (s.cstate c ≠ .charging ∨ (s.chan c).mod.pulse = none → exec (.chargePulseEnd c) s = .next s)
    ∧ (s.cstate c = .charging → (s.chan c).mod.pulse ≠ none → ∃ t, exec (.chargePulseEnd c) s = .next t
      ∧ (∀ leg, ((t.chan c).mod.legs.get leg).latchL = false ∧ ((t.chan c).mod.legs.get leg).latchU = false)
      ∧ (t.chan c).mod.pulse = none ∧ (t.chan c).mod.pulses = (s.chan c).mod.pulses - 1
      ∧ (1 < (s.chan c).mod.pulses → t.cstate c = .charging ∧ s.SameButChannels t
          ∧ ∀ d, d ≠ c → t.chan d = s.chan d)
      ∧ ((s.chan c).mod.pulses ≤ 1 → t.cstate c = .armed
          ∧ (∀ l, s.lifeOf c = some l → l.kind = .start →
              if ∀ m ∈ s.members c, m = c ∨ s.cstate m = .armed then
                t.lifeOf c = none ∧ ∀ i, l.slot = some i → s.Completes t i .ok s.mod.s
              else t.lifeOf c = some l)
          ∧ ∀ d, d ≠ c → t.cstate d = s.cstate d ∧ (t.chan d).mod = (s.chan d).mod))

/-- PERMIT_INACTIVE: every gate output is off at that event (R17), and every channel in service trips with
PERMIT_LOST, a TRIPPED one taking it as a later cause (R113). PERMIT_ACTIVE: every leg follows the want it has,
subject to the deadtime (R17), and no channel moves (R113). With the level inactive already, PERMIT_INACTIVE changes
nothing. The same level again is no edge (log 1). -/
def Obligations.PermitChanges : Prop :=
  ∀ (s : State), s.crw.held = false →
    (s.pins.permit = true → s.PairsSafe →
      ∃ t, exec .permitInactive s = .next t ∧ t.pins = { s.pins with permit := false }
        ∧ (∀ c leg upper, t.gateOut c leg upper = false) ∧ s.TripOutcome t Chan.all .permitLost 0
        ∧ t.mod = s.mod ∧ t.dls = s.dls ∧ t.link = s.link ∧ t.exc.state = s.exc.state)
    ∧ (s.pins.permit = false → exec .permitInactive s = .next s)
    ∧ (∃ t, exec .permitActive s = .next t
      ∧ ({ s with pins := { s.pins with permit := true } } : State).SameButChannels t
      ∧ ∀ c, (s.chan c).GatesFollow true s.mod.p (fun l => ((s.chan c).mod.legs.get l).want) (t.chan c)
          ∧ t.chan c = { s.chan c with
              mod := { (s.chan c).mod with legs := (t.chan c).mod.legs }, tru := (t.chan c).tru })

/-! ### Measurement and the engine -/

/-- CONVERSION_COMPLETE: the converter serves the trigger that waits, with its skew, or is idle (R20 to R22). A set of
a channel disabled meanwhile is dropped (R23), one past its deadline counts as late (R67), any other joins the tail of
the ready list (R24); an idle engine starts on the head of the list with the kind its channel's state gives (R35, R66)
and the inputs as they then stand (R36, R147). An idle converter completes nothing (log 1). -/
def Obligations.ConversionComplete : Prop :=
  ∀ (s : State) (k : Quad) (a b : BitVec 12), s.crw.held = false →
    ((s.conv.get k).busy = none → exec (.conversionComplete k a b) s = .next s) ∧
    ∀ x, (s.conv.get k).busy = some x →
    let y : SampleSet := ⟨x.chan, a.toNat, b.toNat, x.skew, x.periodCount⟩
    let ready := if x.void = false ∧ x.late = false then s.lpe.ready ++ [y] else s.lpe.ready
    ∃ t, exec (.conversionComplete k a b) s = .next t
      ∧ t.conv.get k = ⟨(s.conv.get k).waiting.map fun w =>
          ⟨w.chan, min w.waited 255, 100, w.periodCount, w.late, false⟩, none⟩
      ∧ (∀ i, i ≠ k → t.conv.get i = s.conv.get i)
      ∧ (∀ d, (x.void = false ∧ x.late = true → d ≠ x.chan) → t.chan d = s.chan d)
      ∧ (x.void = false → x.late = true →
          (t.chan x.chan).lpe.lateTotal = min 65535 ((s.chan x.chan).lpe.lateTotal + 1)
          ∧ (t.chan x.chan).lpe.stats.late = true ∧ (t.chan x.chan).chc = (s.chan x.chan).chc)
      ∧ (s.lpe.engine ≠ none → t.lpe.ready = ready ∧ t.lpe.engine = s.lpe.engine)
      ∧ (s.lpe.engine = none → t.StartsNext ready)
      ∧ t.mod = s.mod ∧ t.chc = s.chc ∧ t.tru = s.tru ∧ t.exc.state = s.exc.state

/-- JOB_COMPLETE of a full job that is committed: the channel takes the loop state and, while modulated, the fresh
shadow; the cycle's statistics and, unless frozen, the history grow and the ACTIVE captures of the channel are tapped
(R62, R70 to R73, R75, R76); then the engine starts on the head of the ready list, with the kind that its channel's
state gives and the inputs as they then stand (R35, R36, R66, R147), and an empty list leaves it idle. Premises: the
bounded lists in their bounds, the job not late, not void, no software overcurrent, and not the last step of a ramp.
Two contexts that tap one commit give their entries one tap number (log 19). A job begun in RUNNING that commits with
iq_ref 0 while its channel is in RAMPDOWN raises no ramp-complete here, which is the model's choice (log 53). -/
def Obligations.FullJobCommits : Prop :=
  ∀ (s : State) (j : Job), s.crw.held = false → s.BoundsSafe → s.lpe.engine = some j → j.kind = .full →
    j.void = .no → j.late = false → j.inp.overItrip = false → j.inp.state ≠ .tripped →
    ¬ (j.inp.state = .rampdown ∧ j.inp.iqRef = 0) →
    ∃ t, exec .jobComplete s = .next t
      ∧ (∀ d, d ≠ j.set.chan → t.chan d = s.chan d)
      ∧ (let x := s.chan j.set.chan
        let y := t.chan j.set.chan
        let r := fullResult j.inp
        let e : HistEntry := ⟨j.set.periodCount.setWidth 16, r.thetaS, r.id, r.iq, r.iqRef, r.vd, r.vq, r.limI,
          r.limV, j.set.skew⟩
        y.lpe.iD = r.iD ∧ y.lpe.iQ = r.iQ ∧ y.lpe.idRef = r.idRef ∧ y.lpe.iqRef = r.iqRef ∧ y.lpe.vd = r.vd
        ∧ y.lpe.vq = r.vq
        ∧ y.mod.shadow = (if x.chc.state = .running ∨ x.chc.state = .rampdown then some r.cmp else x.mod.shadow)
        ∧ y.lpe.stats.commits = x.lpe.stats.commits + 1 ∧ y.lpe.stats.idSum = x.lpe.stats.idSum + r.id
        ∧ y.lpe.stats.iqSum = x.lpe.stats.iqSum + r.iq
        ∧ y.lpe.stats.limI = (x.lpe.stats.limI || r.limI) ∧ y.lpe.stats.limV = (x.lpe.stats.limV || r.limV)
        ∧ y.lpe.stats.vd = r.vd ∧ y.lpe.stats.vq = r.vq ∧ y.lpe.stats.iqRef = r.iqRef
        ∧ y.lpe.hist = (if x.lpe.frozen then x.lpe.hist else x.lpe.hist.drop (x.lpe.hist.length - 31) ++ [e])
        ∧ (x.lpe.frozen = false → ∀ ctx, (s.cap ctx).Taps j.set.chan e s.lpe.taps (t.cap ctx))
        ∧ (x.lpe.frozen = true → ∀ ctx, t.cap ctx = { s.cap ctx with inFlight := (t.cap ctx).inFlight })
        ∧ y.chc = x.chc ∧ y.tru = x.tru ∧ y.exc = x.exc ∧ y.lpe.angle = x.lpe.angle)
      ∧ t.StartsNext s.lpe.ready
      ∧ t.mod = s.mod ∧ t.chc = s.chc ∧ t.tru = s.tru ∧ t.dls = s.dls

/-- JOB_COMPLETE of the other jobs. A committed measuring job takes no loop state and no compare set; the measured
currents enter the statistics with references and voltages 0, and unless the job was started TRIPPED or the history is
frozen, the history, with the ACTIVE captures of the channel tapped (R38, R70, R72, R75, R76). A late job counts
(R68), one voided by a DISABLE leaves nothing at all, and one that finds a phase current beyond Itrip trips its
channel with SOFT_OC, even voided by a trip (R40, R69), and takes nothing else of its result; neither void nor past its
deadline, its period will count as one without a job at the coming zero (R40, log 54). Then the engine starts on the head of the ready list with the
kind that its channel's state gives (R35, R66). With no job in hand there is no event (log 1). Two contexts that tap
one commit give their entries one tap number (log 19). -/
def Obligations.OtherJobs : Prop :=
  ∀ (s : State) (j : Job), s.crw.held = false → s.lpe.engine = some j →
    ∃ t, exec .jobComplete s = .next t ∧ t.mod = s.mod ∧ t.dls = s.dls ∧ t.link = s.link
      ∧ (j.kind ≠ .calibration ∨ j.void ≠ .no ∨ j.late = true ∨ s.cstate j.set.chan ≠ .calibrating →
          t.StartsNext s.lpe.ready)
      ∧ exec .jobComplete { s with lpe := { s.lpe with engine := none } }
          = .next { s with lpe := { s.lpe with engine := none } }
      ∧ (j.kind = .measuring → j.void = .no → j.late = false →
          (j.inp.overItrip = false ∨ j.inp.state = .tripped) →
          (∀ d, d ≠ j.set.chan → t.chan d = s.chan d)
          ∧ let x := s.chan j.set.chan
            let y := t.chan j.set.chan
            y.lpe.iD = x.lpe.iD ∧ y.lpe.iQ = x.lpe.iQ ∧ y.lpe.iqRef = x.lpe.iqRef ∧ y.mod = x.mod
            ∧ y.chc = x.chc ∧ y.lpe.stats.commits = x.lpe.stats.commits + 1
            ∧ y.lpe.stats.idSum = x.lpe.stats.idSum + j.inp.id
            ∧ y.lpe.stats.iqSum = x.lpe.stats.iqSum + j.inp.iq
            ∧ y.lpe.stats.vd = 0 ∧ y.lpe.stats.vq = 0 ∧ y.lpe.stats.iqRef = 0
            ∧ y.lpe.hist.length = (if x.lpe.frozen = true ∨ j.inp.state = .tripped then x.lpe.hist.length
                else if x.lpe.hist.length < 32 then x.lpe.hist.length + 1 else x.lpe.hist.length)
            ∧ (let e : HistEntry := ⟨j.set.periodCount.setWidth 16, j.inp.thetaS, j.inp.id, j.inp.iq, 0, 0, 0,
                false, false, j.set.skew⟩
              (x.lpe.frozen = false → j.inp.state ≠ .tripped →
                (x.lpe.hist.length ≤ 32 → y.lpe.hist = x.lpe.hist.drop (x.lpe.hist.length - 31) ++ [e])
                ∧ ∀ ctx, (s.cap ctx).Taps j.set.chan e s.lpe.taps (t.cap ctx))
              ∧ (x.lpe.frozen = true ∨ j.inp.state = .tripped → y.lpe.hist = x.lpe.hist
                ∧ ∀ ctx, t.cap ctx = { s.cap ctx with inFlight := (t.cap ctx).inFlight })))
      ∧ (j.void = .disabled → t.ch = s.ch ∧ t.tru = s.tru ∧ t.lpe.cap0.fifo = s.lpe.cap0.fifo
          ∧ t.crw = s.crw)
      ∧ (j.void ≠ .disabled → s.PairsSafe → j.kind ≠ .calibration → j.inp.state ≠ .tripped →
          j.inp.overItrip = true → s.TripOutcome t [j.set.chan] .softOc 0
            ∧ (let x := (s.chan j.set.chan).lpe
              let y := (t.chan j.set.chan).lpe
              y.noJobDue = (x.noJobDue || (j.void == .no && !j.late))
              ∧ y.stats = x.stats ∧ y.lateTotal = x.lateTotal ∧ y.hist = x.hist ∧ y.iD = x.iD ∧ y.iQ = x.iQ
              ∧ y.idRef = x.idRef ∧ y.iqRef = x.iqRef))
      ∧ (j.void = .tripped → (j.kind = .calibration ∨ j.inp.state = .tripped ∨ j.inp.overItrip = false) →
          t.ch = s.ch ∧ t.tru = s.tru)
      ∧ (j.void = .no → j.late = true →
          (j.kind = .calibration ∨ j.inp.state = .tripped ∨ j.inp.overItrip = false) →
          (∀ d, d ≠ j.set.chan → t.chan d = s.chan d)
          ∧ t.chan j.set.chan = { s.chan j.set.chan with lpe := { (s.chan j.set.chan).lpe with
              stats := { (s.chan j.set.chan).lpe.stats with late := true },
              lateTotal := min 65535 ((s.chan j.set.chan).lpe.lateTotal + 1) } })

/-- The end of a ramp: a committed job of a RAMPDOWN channel with reference 0 makes it ARMED with its gates off, and a
STOP in flight ends OK, for a pair with the second member (R50, R90); then the engine starts on the head of the ready
list (R66). -/
def Obligations.RampCompletes : Prop :=
  ∀ (s : State) (j : Job), s.crw.held = false → s.PairsSafe → s.LivesSafe → s.lpe.engine = some j →
    j.kind = .full → j.void = .no → j.late = false → j.inp.overItrip = false → j.inp.state = .rampdown →
    j.inp.iqRef = 0 → s.cstate j.set.chan = .rampdown →
    ∃ t, exec .jobComplete s = .next t ∧ t.cstate j.set.chan = .armed
      ∧ (t.chan j.set.chan).chc.rampCause = (s.chan j.set.chan).chc.rampCause
      ∧ (t.chan j.set.chan).lpe.iqRef = 0
      ∧ (∀ leg, ((t.chan j.set.chan).mod.legs.get leg).latchU = false
          ∧ ((t.chan j.set.chan).mod.legs.get leg).latchL = false)
      ∧ (t.chan j.set.chan).mod.shadow = none
      ∧ (∀ l, s.lifeOf j.set.chan = some l → l.kind = .stop →
          if ∀ m ∈ s.members j.set.chan, m = j.set.chan ∨ s.cstate m = .armed then
            t.lifeOf j.set.chan = none ∧ ∀ i, l.slot = some i → s.Completes t i .ok s.mod.s
          else t.lifeOf j.set.chan = some l)
      ∧ (∀ d, d ≠ j.set.chan → t.cstate d = s.cstate d) ∧ t.StartsNext s.lpe.ready

/-- A committed calibration job adds its raw codes; the 64th decides with the averages of both sums: inside the window
the offsets are taken and the channel is CHARGING, outside it the channel and its partner are DISABLED with the
offsets kept and the START ended with OFFSET_RANGE (R31, R32, R83), their waiting sets leaving the ready list. The
engine then starts on the head of the list (R66). -/
def Obligations.CalibrationJobs : Prop :=
  ∀ (s : State) (j : Job), s.crw.held = false → s.PairsSafe → s.LivesSafe → s.lpe.engine = some j →
    j.kind = .calibration → j.void = .no → j.late = false → s.cstate j.set.chan = .calibrating →
    (s.chan j.set.chan).smu.n < 64 →
    ∃ t, exec .jobComplete s = .next t
      ∧ (let x := s.chan j.set.chan
        let y := t.chan j.set.chan
        let a := (x.smu.sumA + j.set.rawA + 32) / 64
        let b := (x.smu.sumB + j.set.rawB + 32) / 64
        let w := x.chc.mode.window
        let passes := 2048 ≤ a + w ∧ a ≤ 2048 + w ∧ 2048 ≤ b + w ∧ b ≤ 2048 + w
        (x.smu.n < 63 ∨ passes → t.StartsNext s.lpe.ready)
        ∧ (x.smu.n = 63 → ¬ passes → t.StartsNext (s.lpe.ready.filter fun z =>
            decide (z.chan ∉ s.members j.set.chan)))
        ∧ (x.smu.n < 63 → y = { x with smu := { x.smu with
            sumA := x.smu.sumA + j.set.rawA, sumB := x.smu.sumB + j.set.rawB, n := x.smu.n + 1 } })
        ∧ (x.smu.n = 63 → passes → y.chc.state = .charging ∧ y.smu.offA = a ∧ y.smu.offB = b
            ∧ y.mod.pulses = x.chc.mode.pulses ∧ t.lifeOf j.set.chan = s.lifeOf j.set.chan
            ∧ ∀ d, d ≠ j.set.chan → t.chan d = s.chan d)
        ∧ (x.smu.n = 63 → ¬ passes → (∀ m ∈ s.members j.set.chan, t.cstate m = .disabled)
            ∧ y.smu.offA = x.smu.offA ∧ y.smu.offB = x.smu.offB ∧ t.lifeOf j.set.chan = none
            ∧ (∀ l, s.lifeOf j.set.chan = some l → ∀ i, l.slot = some i → s.Completes t i .offsetRange s.mod.s)
            ∧ ∀ d, d ∉ s.members j.set.chan → t.chan d = s.chan d))
      ∧ t.mod = s.mod ∧ t.tru = s.tru

/-- The DC link. At each DC sample event udc is the scaled and saturated code under the gain in force, in 0..32767,
and r is the floor of 2^30 / udc when udc is 1024 or more and kept otherwise. A swap of gU, which an order holds in
0..65535, leaves both, no other command touches them, both resets make them 0 and 53687, and gU changes by a swap or a
reset, to 2048, alone. r in 32769..1048576 stays there, and time alone changes none of them. -/
def Obligations.DcLinkValues : Prop :=
  ∀ (s : State) (raw : BitVec 12) (i : Instr) (t : State) (o : Order),
    (dcRecOf o).1.gU ≤ 65535
    ∧ (s.crw.held = false → s.mod.running = true → ∃ u, exec (.dcSample raw) s = .next u
      ∧ (u.link.udc : Int) = sat16 (sra ((raw.toNat : Int) * s.dls.dc.gU + 128) 8) ∧ u.link.udc ≤ 32767
      ∧ (1024 ≤ u.link.udc → u.link.r * u.link.udc ≤ 2 ^ 30 ∧ 2 ^ 30 < (u.link.r + 1) * u.link.udc)
      ∧ (u.link.udc < 1024 → u.link.r = s.link.r))
    ∧ (exec i s = .next t →
        ((t.link.udc = s.link.udc ∧ t.link.r = s.link.r) ∨ (∃ r, i = .dcSample r)
          ∨ (t.link.udc = 0 ∧ t.link.r = 53687
              ∧ (i = .hardwareReset ∨ i = .softReset ∨ ∃ p, i = .hardwareResetRelease p)))
        ∧ (t.dls.dc.gU = s.dls.dc.gU
          ∨ (i = .servoBoundary ∧ ∃ x, s.chc.stDcLink = some x ∧ t.dls.dc.gU = x.value.gU)
          ∨ (t.dls.dc.gU = 2048 ∧ (i = .hardwareReset ∨ i = .softReset ∨ ∃ p, i = .hardwareResetRelease p)))
        ∧ (i = .servoBoundary → s.crw.held = false → s.mod.running = true →
            ∀ x, s.chc.stDcLink = some x → t.dls.dc.gU = x.value.gU)
        ∧ (s.link.udc ≤ 32767 ∧ 32769 ≤ s.link.r ∧ s.link.r ≤ 1048576 →
            t.link.udc ≤ 32767 ∧ 32769 ≤ t.link.r ∧ t.link.r ≤ 1048576))
    ∧ (exec .hardwareReset s = .next t ∨ (s.Open ∧ exec .softReset s = .next t) →
        t.link.udc = 0 ∧ t.link.r = 53687 ∧ t.dls.dc.gU = 2048)
    ∧ (s.pending = [] → step s = .next t →
        t.link.udc = s.link.udc ∧ t.link.r = s.link.r ∧ t.dls.dc.gU = s.dls.dc.gU)

/-- DC_SAMPLE: the cycle sum grows (R30), and the link's tests act on the new udc: below UV once the supervisor is
armed UNDERVOLTAGE, at or above OV OVERVOLTAGE, each addressing the channels in service and at the first sample of a
run the TRIPPED ones too (R118, R119); with neither no channel changes. -/
def Obligations.DcSampleSupervises : Prop :=
  ∀ (s : State) (raw : BitVec 12), s.crw.held = false → s.mod.running = true → s.PairsSafe →
    s.dls.dc.uv ≤ s.dls.dc.ov →
    ∃ t, exec (.dcSample raw) s = .next t
      ∧ t.link.pos = 0 ∧ t.link.cycSum = s.link.cycSum + t.link.udc ∧ t.link.cycCount = s.link.cycCount + 1
      ∧ t.dls.dc = s.dls.dc
      ∧ t.dls.armed = (s.dls.armed || decide (s.dls.dc.uvRelease ≤ t.link.udc))
      ∧ t.dls.uvRun = decide (t.link.udc < s.dls.dc.uv) ∧ t.dls.ovRun = decide (s.dls.dc.ov ≤ t.link.udc)
      ∧ (let u : State := { s with link := t.link, dls := t.dls }
        (t.link.udc < s.dls.dc.uv → t.dls.armed = true → u.TripOutcome t (Chan.all.filter fun c =>
            (s.cstate c).inService || (!s.dls.uvRun && s.cstate c == .tripped)) .undervoltage 0)
        ∧ (s.dls.dc.ov ≤ t.link.udc → u.TripOutcome t (Chan.all.filter fun c =>
            (s.cstate c).inService || (!s.dls.ovRun && s.cstate c == .tripped)) .overvoltage 0)
        ∧ (¬ (t.link.udc < s.dls.dc.uv ∧ t.dls.armed = true) → t.link.udc < s.dls.dc.ov →
            t.ch = s.ch ∧ t.tru = s.tru ∧ t.crw = s.crw))
      ∧ t.mod = s.mod

/-- The brake energy accumulator at a DC sample, BRAKE_HOT and the forced turn-off (R121), then the chopper's own rule
(R120). A chopper is on only below E_lim and off while BRAKE_HOT is set, and E stays below E_lim + on_inc, through
every step. E is 0 after a hardware reset, and a soft reset keeps it, with BRAKE_HOT, under the clamp of R117 and
turns the chopper off. -/
def Obligations.BrakeEnergy : Prop :=
  ∀ (s : State) (raw : BitVec 12),
    (∀ t, step s = .next t → s.BrakeSafe → t.BrakeSafe)
    ∧ (∃ t, exec .hardwareReset s = .next t ∧ t.dls.e = 0)
    ∧ (s.Open → ∃ t, exec .softReset s = .next t ∧ t.dls.e = min s.dls.e 1000000
        ∧ t.dls.hot = (s.dls.hot || decide (1000000 ≤ s.dls.e)) ∧ t.dls.chopper = false)
    ∧ (s.crw.held = false → s.mod.running = true → ∃ t, exec (.dcSample raw) s = .next t
      ∧ (t.dls.e : Int) = max 0 ((s.dls.e : Int) + (if s.dls.chopper then s.dls.dc.onInc else 0) - s.dls.dc.decay)
      ∧ (s.dls.dc.eLim ≤ t.dls.e → t.dls.hot = true ∧ t.dls.chopper = false
          ∧ (s.dls.chopper = true → t.dls.offTime = 0))
      ∧ (t.dls.e < s.dls.dc.eLim → t.dls.hot = (s.dls.hot && decide (s.dls.dc.eLim / 2 < t.dls.e))
          ∧ (s.dls.chopper = true →
              t.dls.chopper = !(decide (t.link.udc ≤ s.dls.dc.brakeOff) && decide (s.dls.dc.minOn ≤ s.dls.onTime)))
          ∧ (s.dls.chopper = false →
              t.dls.chopper = (!t.dls.hot && decide (s.dls.dc.brakeOn ≤ t.link.udc)
                && decide (s.dls.dc.minOff ≤ s.dls.offTime)))
          ∧ (s.dls.chopper = true → t.dls.chopper = false → t.dls.offTime = 0)
          ∧ (s.dls.chopper = false → t.dls.chopper = true → t.dls.onTime = 0)))

/-! ### The protection inputs -/

/-- A change of a comparator, gate-fault or external input: the level is taken, a level that is inactive, or for an
external input equal to the filtered one, returns the filter count to 0, and nothing else changes (R108 to R110); so
it is under the reset input. BLANKING_END closes the window and nothing else (R107). -/
def Obligations.InputChanges : Prop :=
  ∀ (s : State) (c : Chan) (leg : Leg) (i : Quad) (b : Bool),
    (∃ t, exec (.comparatorInputChange c leg b) s = .next t ∧ t = { s with ch := t.ch }
      ∧ (∀ d, d ≠ c → t.chan d = s.chan d)
      ∧ t.chan c = { s.chan c with tru := { (s.chan c).tru with oc := (t.chan c).tru.oc } }
      ∧ (∀ l, l ≠ leg → (t.chan c).tru.oc.get l = (s.chan c).tru.oc.get l)
      ∧ ((t.chan c).tru.oc.get leg).active = b
      ∧ ((t.chan c).tru.oc.get leg).count = if b then ((s.chan c).tru.oc.get leg).count else 0)
    ∧ (∃ t, exec (.gateFaultInputChange c b) s = .next t ∧ t = { s with ch := t.ch }
      ∧ (∀ d, d ≠ c → t.chan d = s.chan d)
      ∧ t.chan c = { s.chan c with tru := { (s.chan c).tru with
          gfLow := b, gfCount := if b then (s.chan c).tru.gfCount else 0 } })
    ∧ (∃ t, exec (.xtInputChange i b) s = .next t ∧ t = { s with tru := { s.tru with xt := t.tru.xt } }
      ∧ (∀ k, k ≠ i → t.tru.xt.get k = s.tru.xt.get k)
      ∧ t.tru.xt.get i = { s.tru.xt.get i with
          raw := b, count := if b = (s.tru.xt.get i).level then 0 else (s.tru.xt.get i).count })
    ∧ (s.crw.held = false → ∃ t, exec (.blankingEnd c) s = .next t ∧ t = { s with ch := t.ch }
      ∧ (∀ d, d ≠ c → t.chan d = s.chan d)
      ∧ t.chan c = { s.chan c with tru := { (s.chan c).tru with blank := 0, blankDue := false } })

/-- OVERCURRENT and GATE_FAULT are trip events of their channel, with the phase as detail of the first (R103, R104,
R108, R109): no other channel but its partner is touched. The event takes the filter's mark: a count so marked, or one
of an inactive or blanked input, stays, and a commanded event without the mark sets it to the setting (log 1), said of
an overcurrent filter for a DISABLED channel, since a trip may open the window. XT_FILTERED_EDGE: the filtered level
takes the raw level, and by its processing the input acts on the channels it routes, as a trip event EXTERNAL with its
number as detail or as a fast stop request (R110, R111) with the outcome of R96 and R100 for those it routes and their
partners (log 17); an edge that does not fire changes nothing else, and without an edge there is no event. -/
def Obligations.FilteredInputsAct : Prop :=
  ∀ (s : State) (c : Chan) (leg : Leg) (i : Quad), s.crw.held = false → s.PairsSafe →
    let x := s.tru.xt.get i
    let fires := (x.set.proc = .rising ∧ x.raw = true)
      ∨ ((x.set.proc = .falling ∨ x.set.proc = .lowLevel) ∧ x.raw = false)
    let routed := Chan.all.filter fun c => x.set.route.getLsbD c.val
    (∃ t, exec (.overcurrent c leg) s = .next t
      ∧ s.TripOutcome t [c] .overcurrent (match leg with | .a => 0 | .b => 1 | .c => 2)
      ∧ ((t.chan c).tru.oc.get leg).due = false
      ∧ (let o := (s.chan c).tru.oc.get leg
        s.cstate c = .disabled → ((t.chan c).tru.oc.get leg).count =
          if o.due = true ∨ o.active = false ∨ 0 < (s.chan c).tru.blank then o.count
          else (s.chan c).chc.mode.ocFilter)
      ∧ t.mod = s.mod ∧ t.dls = s.dls ∧ t.tru.xt = s.tru.xt)
    ∧ (∃ t, exec (.gateFault c) s = .next t ∧ s.TripOutcome t [c] .gateFault 0
      ∧ (t.chan c).tru.gfDue = false
      ∧ (t.chan c).tru.gfCount = (if (s.chan c).tru.gfDue = true ∨ (s.chan c).tru.gfLow = false
          then (s.chan c).tru.gfCount else (s.chan c).chc.mode.gfFilter)
      ∧ t.mod = s.mod ∧ t.dls = s.dls ∧ t.tru.xt = s.tru.xt)
    ∧ (x.raw = x.level → exec (.xtFilteredEdge i) s = .next s)
    ∧ (x.raw ≠ x.level → ∃ t, exec (.xtFilteredEdge i) s = .next t
        ∧ t.tru.xt.get i = { x with level := x.raw, count := 0 }
        ∧ (∀ k, k ≠ i → t.tru.xt.get k = s.tru.xt.get k)
        ∧ (fires → x.set.action = .trip → s.TripOutcome t routed .external i.val)
        ∧ (fires → x.set.action = .fastStop → t.ch = (s.fastStopRequest routed).ch
            ∧ (s.LivesSafe → s.StopOutcome t routed))
        ∧ (¬ fires → t.ch = s.ch ∧ t.tru.dumps = s.tru.dumps ∧ t.crw = s.crw)
        ∧ t.mod = s.mod ∧ t.dls = s.dls)

/-! ### The memory port -/

/-- The pending sequence that begins when MPT selects, at SEQUENCE_SELECT on a bus it owns and at BUS_GRANT on one it
requests: the one of the highest priority, at its address under the base in force, with what it writes (R115, R124,
R154 to R161, R177, R179), as `State.Begins` shows it. The bus is then owned, and the count of failures and the
channels are left. A trip record is laid out as R137 says, bits without a field 0 (log 46). The flags of a block are
written as read (log 24). Addresses of an order body or a capture entry past the top of the address space go on from 0
(log 55). -/
def Obligations.SelectsByPriority : Prop :=
  (∀ (d : TripRecord) (later : BitVec 12), d.hist.length ≤ 32 → d.LaidOut later (d.words later)) ∧
  ∀ (s : State), s.crw.held = false → s.mpt.seq = none → s.mpt.anyPending = true →
    let kept := fun (t : State) =>
      t.mpt.fails = s.mpt.fails ∧ t.ch = s.ch ∧ t.crw = s.crw ∧ t.mpt.bus = .owning ∧ s.Begins t
    (s.crw.straps.parkEn = true → s.pins.grant = true → s.mpt.bus = .owning ∨ s.mpt.bus = .parked →
      ∃ t, exec .sequenceSelect s = .next t ∧ t.pins = s.pins ∧ kept t)
    ∧ (s.mpt.bus = .requesting →
      ∃ t, exec .busGrant s = .next t ∧ t.pins = { s.pins with grant := true } ∧ kept t)

/-- Ownership of the bus. BUS_GRANT in REQUESTING: a suspended sequence resumes at its next word, else the bus is
owned for what is pending (SelectsByPriority says which sequence begins), and with nothing left to carry the bus is
given up or parked (R177, R178, log 30); in any other state only the grant is seen. GRANT_WITHDRAWN is obeyed later
and changes nothing else (R178). REQUEST_AFTER_RELEASE requests again one port clock after a release (R177).
SEQUENCE_SELECT without anything to select, and an answer or a timeout without a sequence that has the bus, are no
events (log 1). BUS_GRANT stands for the edge that takes the bus (log 23). At its port clock edge MPT requests for
what is pending, handles a bus on which nothing runs by the table of R177, goes on with the sequence on the bus or
suspends it, and raises the selection, the request after a release, or with grant the taking of the bus, whose busy is
free (R177 to R179, logs 21, 22, 30 and 38). -/
def Obligations.BusOwnership : Prop :=
  ∀ (s : State) (ready busErr : Bool) (data : Word) (par : BitVec 4), s.crw.held = false →
    (s.mpt.bus ≠ .requesting → exec .busGrant s = .next { s with pins := { s.pins with grant := true } })
    ∧ (s.mpt.bus = .requesting → ∃ t, exec .busGrant s = .next t ∧ t.pins = { s.pins with grant := true }
        ∧ t.ch = s.ch ∧ t.crw = s.crw ∧ t.mpt.fails = s.mpt.fails
        ∧ (∀ x, s.mpt.seq = some x → t.mpt.bus = .owning
            ∧ t.mpt.seq = some { x with suspended := false, dataClock := 0, addrNext := false })
        ∧ (s.mpt.seq = none → s.mpt.anyPending = true → t.mpt.bus = .owning)
        ∧ (s.mpt.seq = none → s.mpt.anyPending = false → t.mpt.seq = none
            ∧ t.mpt.bus = if s.crw.straps.parkEn then .parked else .released))
    ∧ exec .grantWithdrawn s = .next { s with pins := { s.pins with grant := false } }
    ∧ (s.mpt.bus = .released → s.mpt.offClock = true →
        let bus : BusState := if s.mpt.anyPending then .requesting else .released
        exec .requestAfterRelease s = .next { s with mpt := { s.mpt with offClock := false, bus := bus } })
    ∧ (s.mpt.bus ≠ .released ∨ s.mpt.offClock = false → exec .requestAfterRelease s = .next s)
    ∧ (s.mpt.seq ≠ none ∨ s.mpt.anyPending = false ∨ s.mpt.bus = .released ∨ s.mpt.bus = .requesting
        ∨ s.crw.straps.parkEn = false ∨ s.pins.grant = false → exec .sequenceSelect s = .next s)
    ∧ (s.mpt.seq = none ∨ s.mpt.bus ≠ .owning → exec .readyTimeout s = .next s
        ∧ exec (.wordAnswer ready busErr data par) s = .next s)
    ∧ (let u := s.portEdge
      let edgeTo := fun (bus : BusState) (off : Bool) (is : List Instr) =>
        u = { s with
          mpt := { s.mpt with bus := bus, offClock := off, edge := false },
          pending := s.pending ++ is, draws := s.draws + 1 }
      let on := fun (bus : BusState) (x : Seq) =>
        u = { s with mpt := { s.mpt with bus := bus, seq := some x, edge := false }, draws := s.draws + 1 }
      let park := s.crw.straps.parkEn
      let locked := fun (x : Seq) => x.kind = .directory ∨ x.kind = .sheet ∨ ∃ final, x.kind = .report final
      (s.mpt.bus = .released → s.mpt.offClock = false →
        edgeTo (if s.mpt.anyPending then .requesting else .released) false [])
      ∧ (s.mpt.bus = .released → s.mpt.offClock = true → edgeTo .released true [.requestAfterRelease])
      ∧ (s.mpt.bus = .requesting → edgeTo .requesting s.mpt.offClock []
          ∨ (s.pins.grant = true ∧ edgeTo .requesting s.mpt.offClock [.busGrant]))
      ∧ (s.mpt.bus = .owning ∨ s.mpt.bus = .parked → s.mpt.seq = none →
        (park = true → s.pins.grant = true → s.mpt.anyPending = true →
            edgeTo s.mpt.bus s.mpt.offClock [.sequenceSelect])
        ∧ (park = true → s.pins.grant = true → s.mpt.anyPending = false → edgeTo .parked false [])
        ∧ (park = true → s.pins.grant = false →
            edgeTo (if s.mpt.anyPending then .requesting else .released) false [])
        ∧ (park = false → edgeTo .released s.mpt.anyPending []))
      ∧ (∀ x, s.mpt.seq = some x → s.mpt.bus = .owning → x.suspended = false →
        (x.addrNext = false → on .owning { x with dataClock := x.dataClock + 1 })
        ∧ (x.addrNext = true → s.pins.grant = true ∨ locked x → on .owning { x with addrNext := false })
        ∧ (x.addrNext = true → s.pins.grant = false → ¬ locked x →
            on .requesting { x with suspended := true })))

/-- WORD_ANSWER from data clock WAIT + 1 on, and READY_TIMEOUT (R178, R180 to R184): ready carries the word, and the
sequence ends after its last one, with PARITY if a read word failed; the bus error ends it; both together back it off
to its first word, five times at most; neither waits. An ended sequence is handed over, a success clears the failure
count and a failure counts up to 3, where PORT is raised; the bus is handled at the next port clock edge, after the
fifth backoff too (R179, logs 38 and 43). A read word with the parity checked sets the mark where some byte lane and
its bit hold an odd number of ones, and a written word carries the bits that make every lane even (R183). The fourth
word of a sheet sets the rest from the length of its header, or none for a length outside 5 to 128 (R134, R180).
Transfers are bursts of four and then single words, an answer or DONE write three single words; last-word is out with
the last word of a transfer, from data clock 1 on, and the next begins with an address clock, where a withdrawn grant
suspends (R178, R180, log 38). In its data clocks the address output shows the address of each word (log 48). -/
def Obligations.WordAnswers : Prop :=
  ∀ (s : State) (x : Seq) (data : Word) (par : BitVec 4), s.crw.held = false →
    s.mpt.seq = some x → s.mpt.bus = .owning → x.suspended = false →
    let y := x.carry s.crw.straps.parityEn data par
    let reads := x.kind = .directory ∨ x.kind = .sheet ∨ x.kind = .pointer ∨ x.kind = .header ∨ x.kind = .body
    let single := ∃ notify, x.kind = .answer notify ∨ x.kind = .done notify
    let last := fun (n : Nat) => single ∨ 4 * (n / 4) ≤ x.next ∨ x.next % 4 = 3
    let ends := fun (t : State) (out : PortOutcome) (ws : List Word) =>
      t.mpt.seq = none ∧ t.mpt.ended = s.mpt.ended ++ [⟨x.kind, out, ws⟩]
      ∧ t.mpt.fails = (if out = .ok then 0 else min 3 (s.mpt.fails + 1))
      ∧ t.crw.notice = (if out ≠ .ok ∧ 2 ≤ s.mpt.fails then s.crw.notice ||| 0x20 else s.crw.notice)
      ∧ t.mpt.bus = .owning ∧ t.busLock = false ∧ t.busWord = none
      ∧ t.ch = s.ch ∧ t.mod = s.mod ∧ t.exc.state = s.exc.state
    (∀ i, i < 4 → laneOnes data (laneParity data) i % 2 = 0)
    ∧ (x.addrNext = false → ∀ a, x.addrs[x.next]? = some a → s.busWord = some (a,
        if reads ∨ x.dataClock = 0 then none else x.wdata[x.next]?.map fun w => (w, laneParity w),
        decide (x.dataClock ≠ 0 ∧ last x.addrs.length)))
    ∧ (x.addrNext = true → s.busWord = none)
    ∧ (y.parity = true ↔ x.parity = true ∨ (reads ∧ s.crw.straps.parityEn = true
        ∧ ∃ i, i < 4 ∧ laneOnes data par i % 2 = 1))
    ∧ (let len := bits ((x.carried ++ [data]).getD 1 0) 16 8
      y.addrs = if x.kind = .sheet ∧ x.next = 3 then
          (List.range (if 5 ≤ len ∧ len ≤ 128 then len else 4)).map fun i =>
            x.addrs.getD 0 0 + BitVec.ofNat 32 (4 * i)
        else x.addrs)
    ∧ (∃ t, exec .readyTimeout s = .next t ∧ ends t .timeout x.carried)
    ∧ (x.dataClock ≤ s.crw.straps.wait.toNat → ∀ r e, exec (.wordAnswer r e data par) s = .next s)
    ∧ exec (.wordAnswer false false data par) s = .next s
    ∧ (s.crw.straps.wait.toNat < x.dataClock →
      (∃ t, exec (.wordAnswer false true data par) s = .next t ∧ ends t .busError x.carried)
      ∧ (∃ t, exec (.wordAnswer true true data par) s = .next t
        ∧ (x.restarts = 4 → ends t .backoffLimit x.carried)
        ∧ (x.restarts ≠ 4 → t.mpt.bus = .requesting ∧ t.mpt.ended = s.mpt.ended ∧ t.mpt.fails = s.mpt.fails
            ∧ ∃ z, t.mpt.seq = some z ∧ z.next = 0 ∧ z.carried = [] ∧ z.restarts = x.restarts + 1
                ∧ z.suspended = true ∧ z.parity = false ∧ z.kind = x.kind ∧ z.wdata = x.wdata
                ∧ z.addrs = if x.kind = .sheet then x.addrs.take 4 else x.addrs))
      ∧ (∃ t, exec (.wordAnswer true false data par) s = .next t
        ∧ y.next = x.next + 1 ∧ y.carried = (if reads then x.carried ++ [data] else x.carried)
        ∧ (y.addrs.length ≤ x.next + 1 → ends t (if y.parity then .parity else .ok) y.carried)
        ∧ (x.next + 1 < y.addrs.length → ∃ z, t.mpt.seq = some z ∧ z.next = x.next + 1
            ∧ z.carried = y.carried ∧ z.dataClock = 0 ∧ z.parity = y.parity ∧ z.restarts = x.restarts
            ∧ z.suspended = false ∧ (z.addrNext = true ↔ last y.addrs.length) ∧ t.mpt.bus = .owning)))

/-! ### Ends of sequences -/

/-- DIRECTORY_READ_END in STARTING: a failed read or a wrong version stops the exchange with its reason; else the
exchange runs with the clamped directory, N and L pend at MOD, and the walker is no longer halted; the first success
after a reset sets the walker to the anchor (R127). In any other state the end changes nothing at EXC but what follows
every event (R131). An end reaches its requester as log 6 says. -/
def Obligations.DirectoryRead : Prop :=
  ∀ (s : State) (out : PortOutcome) (ws : List Word), s.crw.held = false →
    ∃ t, exec (.directoryReadEnd out ws) s = .next t ∧ t.ch = s.ch ∧ t.chc = s.chc ∧ t.dls = s.dls
      ∧ (s.exc.state = .starting → out ≠ .ok → t.exc.state = .stopped ∧ t.crw.reason = .directoryRead
          ∧ t.noticed .rejected = true ∧ t.mod = s.mod)
      ∧ (s.exc.state = .starting → out = .ok → ws.getD 0 0 ≠ 1 → t.exc.state = .stopped
          ∧ t.crw.reason = .version ∧ t.noticed .rejected = true ∧ t.mod = s.mod)
      ∧ (s.exc.state = .starting → out = .ok → ws.getD 0 0 = 1 →
          let n := min (max (bits (ws.getD 1 0) 0 8) 1) 16
          let l := min (max (bits (ws.getD 1 0) 8 8) 1) n
          t.exc.state = .running ∧ t.mod = { s.mod with pendingNL := some (n, l) }
          ∧ t.exc.dir.n = n ∧ t.exc.dir.l = l ∧ t.exc.dir.k = min (max (bits (ws.getD 1 0) 16 8) 1) 15
          ∧ (∀ i, i < 8 → t.exc.dir.mask.getLsbD i = (ws.getD 2 0).getLsbD i)
          ∧ t.exc.dir.reportEnable = (ws.getD 2 0).getLsbD 8
          ∧ t.exc.walkFails = 0 ∧ t.exc.halted = false ∧ t.exc.firstGo = false ∧ t.exc.sinceGo = false
          ∧ t.exc.position = (if s.exc.firstGo then none else s.exc.position)
          ∧ t.exc.accepted = (s.exc.accepted && !s.exc.firstGo))
      ∧ (s.exc.state ≠ .starting → t.mod = s.mod ∧ t.crw.reason = s.crw.reason
          ∧ t.exc = { s.exc with dirWanted := t.exc.dirWanted, fetch := t.exc.fetch,
                                 reportWaiting := t.exc.reportWaiting, ready := t.exc.ready })

/-- SHEET_FETCH_END of the fetch in hand: one cause at most makes the sheet missing and is counted; a sheet that is
well formed, not torn and newer is accepted with its stamp, its host mark and the stamps it skipped, and waits for its
boundary. The end of a fetch given up is discarded (R139 to R141). `readSheet` reads a sheet exactly where its form is
the one of R134: length, flags, the entries of the mask in their layout, and the tail. An end reaches its requester as
log 6 says. -/
def Obligations.SheetFetched : Prop :=
  ∀ (s : State) (out : PortOutcome) (ws : List Word), s.crw.held = false →
    (∀ x, readSheet ws = some x ↔ x.ReadFrom ws)
    ∧ ∃ t, exec (.sheetFetchEnd out ws) s = .next t ∧ t.ch = s.ch ∧ t.mod = s.mod ∧ t.exc.state = s.exc.state
      ∧ (s.exc.fetchDiscard = true → t.exc.fetchDiscard = false ∧ t.exc.sheet = s.exc.sheet
          ∧ t.exc.counters = s.exc.counters ∧ t.exc.lastStamp = s.exc.lastStamp)
      ∧ (s.exc.fetchDiscard = false → s.exc.fetch ≠ none →
          let k := s.exc.counters
          let head := ws.getD 0 0
          let tail := ws.getD (bits (ws.getD 1 0) 16 8 - 1) 0
          let gap := (head - s.exc.lastStamp).toNat
          let passed := if s.exc.accepted then (head - s.exc.lastStamp - 1).toNat else 0
          let skipped := min 65535 (k.skipped + passed)
          let stale := s.exc.accepted = true ∧ ¬ (1 ≤ gap ∧ gap < 2 ^ 31)
          t.exc.fetch = none
          ∧ (out = .timeout ∨ out = .busError ∨ out = .backoffLimit →
              t.exc.counters = { k with port := min 65535 (k.port + 1) } ∧ t.exc.sheet = s.exc.sheet)
          ∧ (out = .parity →
              t.exc.counters = { k with parity := min 65535 (k.parity + 1) } ∧ t.exc.sheet = s.exc.sheet)
          ∧ (out = .ok → readSheet ws = none →
              t.exc.counters = { k with form := min 65535 (k.form + 1) } ∧ t.exc.sheet = s.exc.sheet)
          ∧ (out = .ok → ∀ x, readSheet ws = some x →
            (head ≠ tail →
              t.exc.counters = { k with torn := min 65535 (k.torn + 1) } ∧ t.exc.sheet = s.exc.sheet)
            ∧ (head = tail → stale →
              t.exc.counters = { k with stale := min 65535 (k.stale + 1) } ∧ t.exc.sheet = s.exc.sheet)
            ∧ (head = tail → ¬ stale → t.exc.sheet = some x ∧ t.exc.lastStamp = head
              ∧ t.exc.accepted = true ∧ t.exc.sinceGo = true ∧ t.exc.mark0 = ws.getD 2 0
              ∧ t.exc.mark1 = ws.getD 3 0
              ∧ t.exc.counters = { k with skipped := skipped })))
      ∧ (s.exc.fetchDiscard = false → s.exc.fetch = none →
          t.exc.sheet = s.exc.sheet ∧ t.exc.counters = s.exc.counters)

/-- The ends of reports, trip dumps and captures. A written report raises REPORT if enabled, a failed one counts; the
final one takes QUIESCING to QUIESCED with its notice (R130, R149). A trip dump's end changes no block but the port,
its record having left the queue at its start; an end that stands for a dump still pending takes its record off
(R116). A capture entry written or dropped leaves its FIFO, a failed one counting as a drop; a DRAINING context with
nothing left and one ended early become FREE (R76 to R78). An end reaches its requester as log 6 says. -/
def Obligations.ReportDumpCaptureEnds : Prop :=
  ∀ (s : State) (out : PortOutcome) (final ctx : Bool), s.crw.held = false →
    (∃ t, exec (.reportWriteEnd out final) s = .next t ∧ t.ch = s.ch ∧ t.mod = s.mod ∧ t.tru = s.tru
      ∧ t.exc.reportFails = (if out = .ok then s.exc.reportFails else min 65535 (s.exc.reportFails + 1))
      ∧ (out = .ok → s.exc.dir.reportEnable = true → t.noticed .report = true)
      ∧ (final = true → s.exc.state = .quiescing → t.exc.state = .quiesced ∧ t.exc.sheet = none
          ∧ t.exc.fetch = none ∧ t.noticed .quiesced = true)
      ∧ (final = false ∨ s.exc.state ≠ .quiescing → t.exc.state = s.exc.state ∧ t.exc.sheet = s.exc.sheet))
    ∧ (∃ t, exec (.tripDumpEnd out) s = .next t ∧ t.ch = s.ch ∧ t.exc.state = s.exc.state ∧ t.mod = s.mod
      ∧ t.tru = { s.tru with dumps := t.tru.dumps }
      ∧ (let ended := ∃ e ∈ s.mpt.ended, e.kind = .dump
        (ended → t.mpt.ended = s.mpt.ended.eraseP (fun e => e.kind == .dump) ∧ t.mpt.seq = s.mpt.seq
            ∧ t.tru.dumps = s.tru.dumps)
        ∧ (¬ ended → ∀ x, s.mpt.seq = some x → t.tru.dumps = s.tru.dumps
            ∧ t.mpt.seq = if x.kind = .dump then none else some x)
        ∧ (¬ ended → s.mpt.seq = none → t.mpt.seq = none
            ∧ t.tru.dumps = if s.mpt.pDump then s.tru.dumps.drop 1 else s.tru.dumps)))
    ∧ (∃ t, exec (.captureWriteEnd out ctx) s = .next t ∧ t.ch = s.ch ∧ t.mod = s.mod ∧ t.tru = s.tru
      ∧ (t.cap !ctx).state = (s.cap !ctx).state
      ∧ ((s.cap ctx).inFlight = true →
          let drops := if out = .ok then (s.cap ctx).drops else min 65535 ((s.cap ctx).drops + 1)
          ((s.cap ctx).state = .active → (t.cap ctx).state = .active ∧ (t.cap ctx).drops = drops
            ∧ (t.cap ctx).fifo = (s.cap ctx).fifo.tail)
          ∧ ((s.cap ctx).state = .draining → 1 < (s.cap ctx).fifo.length → (t.cap ctx).state = .draining
            ∧ (t.cap ctx).drops = drops ∧ (t.cap ctx).fifo = (s.cap ctx).fifo.tail)
          ∧ ((s.cap ctx).state = .draining → (s.cap ctx).fifo.length ≤ 1 → (t.cap ctx).state = .free
            ∧ ∀ i, (s.cap ctx).slot = some i → ∀ o, s.slot i = .held o → o.begun = true →
                i < s.exc.slots.length →
                t.slot i = .writing ∧ t.exc.writeBack = s.exc.writeBack ++ [⟨o.addr, o.w0, o.w2,
                  if drops = 0 then .ok else .lossy drops, s.mod.s, i⟩])
          ∧ ((s.cap ctx).state = .ending → (t.cap ctx).state = .free))
      ∧ ((s.cap ctx).inFlight = false → (t.cap ctx).state = (s.cap ctx).state
          ∧ (t.cap ctx).fifo = (s.cap ctx).fifo))

/-- The walk's reads and its claim, each at its step of the walk (R153 to R157, R160): a null pointer or a block not
POSTED ends it, an unaligned pointer or a failed read is a walk failure, the third of which halts the walker with
PORT; an order that needs a slot when none is available is left; every other block is claimed, the lowest available
slot reserved, and after its claim write the body is read where it has 1 to 48 words of a known kind, then the order
is taken. A read whose walk a clock failure has ended still counts by its outcome (R131, R156). Otherwise the ends
leave EXC alone out of step (log 1). The take is a stage of its own (log 29); the lowest slot is the model's choice
(log 51). -/
def Obligations.WalkSteps : Prop :=
  ∀ (s : State) (out : PortOutcome) (ws : List Word), s.crw.held = false →
    let failed := fun (t : State) => t.exc.walk = none ∧ t.exc.walkFails = min 3 (s.exc.walkFails + 1)
      ∧ (2 ≤ s.exc.walkFails → t.exc.halted = true ∧ t.noticed .port = true)
      ∧ (s.exc.walkFails < 2 → t.exc.halted = s.exc.halted)
    let kept := fun (t : State) => t.ch = s.ch ∧ t.mod = s.mod ∧ t.exc.state = s.exc.state
      ∧ t.exc.writeBack = s.exc.writeBack
    let counted := fun (t : State) => t.exc.walkFails = s.exc.walkFails ∧ t.exc.halted = s.exc.halted
    (∃ t, exec (.nextPointerReadEnd out ws) s = .next t ∧ kept t ∧ t.exc.slots = s.exc.slots
      ∧ (∀ n k, s.exc.walk = some ⟨.pointer, n, k⟩ →
          let p := ws.getD 0 0
          (out ≠ .ok ∨ (p ≠ 0 ∧ p.toNat % 16 ≠ 0) → failed t)
          ∧ (out = .ok → p = 0 → t.exc.walk = none ∧ t.exc.walkFails = 0)
          ∧ (out = .ok → p ≠ 0 → p.toNat % 16 = 0 → t.exc.walk = some ⟨.header p, n, none⟩))
      ∧ (s.exc.walk.all (fun w => w.stage != .pointer) = true → t.exc.walk = s.exc.walk)
      ∧ (s.exc.walk = none → s.ReadInPort .pointer →
          let p := ws.getD 0 0
          (out ≠ .ok ∨ (p ≠ 0 ∧ p.toNat % 16 ≠ 0) → failed t)
          ∧ (out = .ok → p = 0 → t.exc.walkFails = 0 ∧ t.exc.halted = s.exc.halted)
          ∧ (out = .ok → p ≠ 0 → p.toNat % 16 = 0 → counted t))
      ∧ (s.exc.walk.any (fun w => w.stage != .pointer) = true
          ∨ (s.exc.walk = none ∧ ¬ s.ReadInPort .pointer) → counted t))
    ∧ (∃ t, exec (.headerReadEnd out ws) s = .next t ∧ kept t
      ∧ (∀ a n k, s.exc.walk = some ⟨.header a, n, k⟩ →
          let w0 := ws.getD 0 0
          let w2 := ws.getD 2 0
          let needs := (orderKind (bits w0 8 8)).any OrderKind.needsSlot = true
          let claimed := fun (slot : Option Nat) => t.exc.position = some a
            ∧ t.exc.walk = some ⟨.claim, n + 1, some ⟨a, w0, w2, slot, [], true, none⟩⟩
          (out ≠ .ok → failed t)
          ∧ (out = .ok → bits w0 0 8 ≠ 1 → t.exc.walk = none ∧ t.exc.position = s.exc.position)
          ∧ (out = .ok → t.exc.walkFails = 0)
          ∧ (out = .ok → bits w0 0 8 = 1 → ¬ needs → claimed none ∧ t.exc.slots = s.exc.slots)
          ∧ (out = .ok → bits w0 0 8 = 1 → needs → (∀ x ∈ s.exc.slots, x ≠ .free) →
              t.exc.walk = none ∧ t.exc.position = s.exc.position ∧ t.exc.slots = s.exc.slots)
          ∧ (out = .ok → bits w0 0 8 = 1 → needs → ∀ i, s.exc.slots.findIdx? (· == .free) = some i →
              claimed (some i) ∧ t.exc.slots = s.exc.slots.set i .reserved))
      ∧ ((∀ a n k, s.exc.walk ≠ some ⟨.header a, n, k⟩) → t.exc.walk = s.exc.walk ∧ t.exc.slots = s.exc.slots
          ∧ t.exc.position = s.exc.position)
      ∧ (s.exc.walk = none → s.ReadInPort .header →
          (out ≠ .ok → failed t) ∧ (out = .ok → t.exc.walkFails = 0 ∧ t.exc.halted = s.exc.halted))
      ∧ ((∀ a n k, s.exc.walk ≠ some ⟨.header a, n, k⟩) →
          s.exc.walk ≠ none ∨ ¬ s.ReadInPort .header → counted t))
    ∧ (∃ t, exec (.claimWriteEnd out) s = .next t ∧ kept t ∧ t.exc.slots = s.exc.slots
      ∧ (∀ n k, s.exc.walk = some ⟨.claim, n, some k⟩ → t.exc.walk = some
          ⟨if (orderKind (bits k.w0 8 8)).isSome = true ∧ 1 ≤ bits k.w2 16 8 ∧ bits k.w2 16 8 ≤ 48
            then .body else .take, n, some k⟩)
      ∧ ((∀ n k, s.exc.walk ≠ some ⟨.claim, n, some k⟩) → t.exc.walk = s.exc.walk))
    ∧ (∃ t, exec (.bodyReadEnd out ws) s = .next t ∧ kept t ∧ t.exc.slots = s.exc.slots
      ∧ (∀ n k, s.exc.walk = some ⟨.body, n, some k⟩ → t.exc.walk = some
          ⟨.take, n, some { k with body := ws, bodyOk := decide (out = .ok) }⟩)
      ∧ ((∀ n k, s.exc.walk ≠ some ⟨.body, n, some k⟩) → t.exc.walk = s.exc.walk))

/-- The writes of answers: the walk goes on to the next pointer or ends with its fourth order; the slot of an order
left in flight shows its ACTIVE write begun, and one kept for the answer alone is available again (R153, R158, R160,
R161); the end of a DONE write takes the oldest entry off the list and its slot is available, whatever the outcome
(R161). Each raises ORDER where it wrote DONE with NOTIFY (R162). An end reaches its requester as log 6 says. -/
def Obligations.AnswerAndDoneEnds : Prop :=
  ∀ (s : State) (out : PortOutcome) (notify : Bool), s.crw.held = false →
    (∃ t, exec (.answerWriteEnd out notify) s = .next t ∧ t.ch = s.ch ∧ t.mod = s.mod
      ∧ (notify = true → t.noticed .order = true) ∧ t.exc.writeBack = s.exc.writeBack
      ∧ (∀ n k, s.exc.walk = some ⟨.answer, n, some k⟩ →
          t.exc.walk = (if n < 4 then some ⟨.pointer, n, none⟩ else none)
          ∧ (∀ i, k.slot = some i → s.slot i = .writing → (∀ d ∈ s.exc.writeBack, d.slot ≠ i) →
              t.exc.slots = s.exc.slots.set i .free)
          ∧ (∀ i, k.slot = some i → ∀ o, s.slot i = .held o →
              (∀ r stamp, k.answer = some (.done r stamp) → t.exc.slots = s.exc.slots)
              ∧ (k.answer = some .active → o.early = none →
                  t.exc.slots = s.exc.slots.set i (.held { o with begun := true }))
              ∧ (k.answer = some .active → o.early ≠ none → (∀ d ∈ s.exc.writeBack, d.slot ≠ i) →
                  t.exc.slots = s.exc.slots.set i .free))
          ∧ (∀ i, k.slot = some i → s.slot i = .free ∨ s.slot i = .reserved → t.exc.slots = s.exc.slots)
          ∧ (k.slot = none → t.exc.slots = s.exc.slots))
      ∧ ((∀ n k, s.exc.walk ≠ some ⟨.answer, n, some k⟩) → t.exc.walk = s.exc.walk
          ∧ t.exc.slots = s.exc.slots))
    ∧ (∃ t, exec (.doneWriteEnd out notify) s = .next t ∧ t.ch = s.ch ∧ t.mod = s.mod
      ∧ (notify = true → t.noticed .order = true) ∧ t.exc.walk = s.exc.walk
      ∧ t.exc.writeBack = s.exc.writeBack.tail
      ∧ (∀ d, s.exc.writeBack.head? = some d → t.exc.slots = s.exc.slots.set d.slot .free)
      ∧ (s.exc.writeBack = [] → t.exc.slots = s.exc.slots))

/-! ### Orders -/

/-- The checks that come before every kind's own rule: a length above 48, a failed body read, a body shorter than the
table's need for the kind and, for a per-channel kind, a channel field that names no channel are refused at the take
and nothing of the order acts; an unknown kind is refused whatever else it holds (R158, R159, R175). -/
def Obligations.OrderChecks : Prop :=
  ∀ (s : State) (k : OrderKind) (o : Order), s.crw.held = false →
    let x := s.claimedFor (some k)
    let need : Nat := match k with
      | .setGains | .setCarrier => 5
      | .setLimits => 4
      | .setChannelMode => 7
      | .loadFieldTable => 1 + if o.length = 0 then 0 else bits (o.body.getD 0 0) 16 16
      | .setPair | .cancel => 1
      | .setDcLink => 6
      | .setTripInputs => 8
      | .capture => 3
      | .clearPair | .start | .run | .stop | .disable | .release => 0
    let perChannel := k ∈ [OrderKind.setGains, .setLimits, .setChannelMode, .setPair, .clearPair, .start, .run,
      .stop, .disable, .release, .capture]
    (48 < o.length.toNat → exec (k.command o) s = .next (s.doneAt x .badLength).follow)
    ∧ (o.length.toNat ≤ 48 → o.bodyOk = false → exec (k.command o) s = .next (s.doneAt x .bodyError).follow)
    ∧ (o.length.toNat ≤ 48 → o.bodyOk = true → o.length.toNat < need →
        exec (k.command o) s = .next (s.doneAt x .badLength).follow)
    ∧ (o.length.toNat ≤ 48 → o.bodyOk = true → need ≤ o.length.toNat → perChannel → 8 ≤ o.channel.toNat →
        exec (k.command o) s = .next (s.doneAt x .badField).follow)
    ∧ exec (.orderUnknownKind o) s = .next (s.doneAt (s.claimedFor none) .unknownKind).follow

/-- SET_GAINS and SET_LIMITS: an enumeration out of range is refused BAD_FIELD; else the clamped values are the
channel's staged record from now on, the slots of a record still waiting kept, and the order is in flight with OK, or
ADJUSTED where a clamp acted (R98, R164 to R166). Without a claimed block there is no answer (log 1). -/
def Obligations.OrderSetGainsLimits : Prop :=
  ∀ (s : State) (o : Order) (c : Chan), s.crw.held = false → o.channel.toNat = c.val →
    let f := bodyField o
    let top := fun (i : Nat) => min (f i) 32767
    let step := fun (i : Nat) => min (max (f i) 1) 32767
    (orderCheck .setGains o = none →
      let x := s.claimedFor (some .setGains)
      let old := (s.chan c).chc.stGains.elim [] Staged.slots
      let z : Staged Gains :=
        ⟨⟨top 0, top 1, top 2, top 3, top 4, top 5, top 6, min (f 7) 48, decide (f 8 = 1)⟩,
          old ++ (s.takeSlot .setGains).toList⟩
      let y := { s.chan c with chc := { (s.chan c).chc with stGains := some z } }
      (1 < f 8 → exec (.setGains o) s = .next (s.doneAt x .badField).follow)
      ∧ (f 8 ≤ 1 → exec (.setGains o) s = .next ((s.setChan c y).activeAt x
          (if (∃ i : Fin 7, 32767 < f i.val) ∨ 48 < f 7 then .adjusted else .ok)).follow))
    ∧ (orderCheck .setLimits o = none →
      let x := s.claimedFor (some .setLimits)
      let old := (s.chan c).chc.stLimits.elim [] Staged.slots
      let z : Staged Limits :=
        ⟨⟨top 0, top 1, top 2, step 3, step 4, top 5, top 6, if f 7 = 1 then .strict else .lenient⟩,
          old ++ (s.takeSlot .setLimits).toList⟩
      let y := { s.chan c with chc := { (s.chan c).chc with stLimits := some z } }
      (1 < f 7 → exec (.setLimits o) s = .next (s.doneAt x .badField).follow)
      ∧ (f 7 ≤ 1 → exec (.setLimits o) s = .next ((s.setChan c y).activeAt x
          (if (∃ i : Fin 7, 32767 < f i.val) ∨ f 3 = 0 ∨ f 4 = 0 then .adjusted else .ok)).follow))

/-- LOAD_FIELD_TABLE, SET_CARRIER, SET_DC_LINK and SET_TRIP_INPUTS: refused BAD_FIELD, or WRONG_STATE for a carrier
while a channel is not DISABLED; else the record is staged whole, with the slots of a record still waiting kept, and
the order is in flight with OK or ADJUSTED (R98, R168, R170 to R172). Without a claimed block there is no answer (log
1). -/
def Obligations.OrderSetPartRecords : Prop :=
  ∀ (s : State) (o : Order), s.crw.held = false →
    let f := bodyField o
    (orderCheck .loadFieldTable o = none →
      let x := s.claimedFor (some .loadFieldTable)
      let points := (List.range (f 1)).map fun i => (f (2 + 2 * i), bodySigned o (3 + 2 * i))
      let good := f 0 ≤ 3 ∧ 2 ≤ f 1 ∧ f 1 ≤ 16 ∧ (∀ i, i < f 1 → f (2 + 2 * i) ≤ 32767)
        ∧ ∀ i, i < f 1 - 1 → f (2 + 2 * i) < f (4 + 2 * i)
      (¬ good → exec (.loadFieldTable o) s = .next (s.doneAt x .badField).follow)
      ∧ (good → ∀ q : Quad, q.val = f 0 →
          let old := (s.chc.tables.get q).staged.elim [] Staged.slots
          let z : Table := ⟨(s.chc.tables.get q).active,
            some ⟨points, old ++ (s.takeSlot .loadFieldTable).toList⟩⟩
          exec (.loadFieldTable o) s = .next (({ s with chc := { s.chc with
            tables := s.chc.tables.set q z } } : State).activeAt x .ok).follow))
    ∧ (orderCheck .setCarrier o = none →
      let x := s.claimedFor (some .setCarrier)
      let p := min (max (f 0) 1000) 25000
      let old := s.chc.stCarrier.elim [] Staged.slots
      let z : Staged CarrierRec :=
        ⟨⟨p, Bank8.ofFn fun c => f (1 + c.val) % (2 * p)⟩, old ++ (s.takeSlot .setCarrier).toList⟩
      ((∃ c, s.cstate c ≠ .disabled) → exec (.setCarrier o) s = .next (s.doneAt x .wrongState).follow)
      ∧ ((∀ c, s.cstate c = .disabled) → exec (.setCarrier o) s = .next
          (({ s with chc := { s.chc with stCarrier := some z } } : State).activeAt x
            (if p ≠ f 0 ∨ ∃ c : Chan, 2 * p ≤ f (1 + c.val) then .adjusted else .ok)).follow))
    ∧ (orderCheck .setDcLink o = none →
      let x := s.claimedFor (some .setDcLink)
      let lim := f 10 + 65536 * f 11
      let old := s.chc.stDcLink.elim [] Staged.slots
      let z : Staged DcRec := ⟨⟨f 0, f 1, f 2, f 3, f 4, f 5, f 6, f 7, max (f 8) 1, f 9,
        min (max lim 1) 16777215⟩, old ++ (s.takeSlot .setDcLink).toList⟩
      let good := f 1 < f 2 ∧ f 2 < f 3 ∧ f 3 < f 4 ∧ f 4 < f 5 ∧ f 5 ≤ 32767
      (¬ good → exec (.setDcLink o) s = .next (s.doneAt x .badField).follow)
      ∧ (good → exec (.setDcLink o) s = .next
          (({ s with chc := { s.chc with stDcLink := some z } } : State).activeAt x
            (if f 8 = 0 ∨ lim = 0 ∨ 16777215 < lim then .adjusted else .ok)).follow))
    ∧ (orderCheck .setTripInputs o = none →
      let x := s.claimedFor (some .setTripInputs)
      let one := fun (i : Nat) => XtSet.mk (match f (4 * i) with
          | 0 => .disabled
          | 1 => .rising
          | 2 => .falling
          | _ => .lowLevel) (BitVec.ofNat 8 (f (4 * i + 1))) (if f (4 * i + 2) = 1 then .fastStop else .trip)
        (min (max (f (4 * i + 3)) 1) 255)
      let old := s.chc.stXt.elim [] Staged.slots
      let z : Staged (Bank4 XtSet) := ⟨⟨one 0, one 1, one 2, one 3⟩, old ++ (s.takeSlot .setTripInputs).toList⟩
      let good := ∀ i : Quad, f (4 * i.val) ≤ 3 ∧ f (4 * i.val + 1) ≤ 255 ∧ f (4 * i.val + 2) ≤ 1
      (¬ good → exec (.setTripInputs o) s = .next (s.doneAt x .badField).follow)
      ∧ (good → exec (.setTripInputs o) s = .next
          (({ s with chc := { s.chc with stXt := some z } } : State).activeAt x
            (if ∃ i : Quad, f (4 * i.val + 3) = 0 ∨ 255 < f (4 * i.val + 3) then .adjusted else .ok)).follow))

/-- The parameter and pair orders complete at their take. SET_CHANNEL_MODE of a DISABLED channel replaces its mode
group with the clamped fields (R167); SET_PAIR of two DISABLED channels outside any pair joins them, the follower's
misses 0 (R95, R169); CLEAR_PAIR takes the pair of two DISABLED members off the table, the follower's q demand held at
the value reached (R95). Each refusal leaves everything else. What CLEAR_PAIR holds is read from R95 (log 15). Without
a claimed block there is no answer (log 1). -/
def Obligations.OrderModePair : Prop :=
  ∀ (s : State) (o : Order) (c : Chan), s.crw.held = false → o.channel.toNat = c.val →
    let f := bodyField o
    (orderCheck .setChannelMode o = none →
      let x := s.claimedFor (some .setChannelMode)
      let good := f 0 ≤ 2 ∧ f 1 ≤ 3 ∧ f 2 ≤ 1 ∧ f 3 ≤ 1
      let kept := f 6 ≤ 2047 ∧ 1 ≤ f 7 ∧ f 7 ≤ 64 ∧ 1 ≤ f 8 ∧ f 8 ≤ 25000 ∧ f 9 ≤ 255 ∧ f 10 ≤ 3125 ∧ f 11 ≤ 255
        ∧ 1 ≤ f 12 ∧ f 12 ≤ 255 ∧ 1 ≤ f 13 ∧ f 13 ≤ 255
      (s.cstate c ≠ .disabled → exec (.setChannelMode o) s = .next (s.doneAt x .wrongState).follow)
      ∧ (s.cstate c = .disabled → ¬ good → exec (.setChannelMode o) s = .next (s.doneAt x .badField).follow)
      ∧ (s.cstate c = .disabled → good → ∃ t, exec (.setChannelMode o) s = .next t
        ∧ (s.doneAt x (if kept then .ok else .adjusted)).SameButChannels t
        ∧ (∀ d, d ≠ c → t.chan d = s.chan d)
        ∧ (let m := (t.chan c).chc.mode
          (m.dSource = match f 0 with | 0 => .zero | 1 => .sheet | _ => .table)
          ∧ m.table.val = f 1 ∧ (m.interp = if f 2 = 1 then .step else .ramp)
          ∧ (m.tripAction = if f 3 = 1 then .lowShort else .pulseBlock)
          ∧ m.angleOffset = BitVec.ofNat 16 (f 4) ∧ m.gI = f 5 ∧ m.window = min (f 6) 2047
          ∧ m.pulses = min (max (f 7) 1) 64 ∧ m.width = min (max (f 8) 1) 25000 ∧ m.deadtime = min (f 9) 255
          ∧ m.cmin = min (f 10) 3125 ∧ m.blanking = min (f 11) 255 ∧ m.ocFilter = min (max (f 12) 1) 255
          ∧ m.gfFilter = min (max (f 13) 1) 255
          ∧ (t.chan c).chc = { (s.chan c).chc with mode := m } ∧ (t.chan c).lpe = (s.chan c).lpe
          ∧ (t.chan c).tru.cause = (s.chan c).tru.cause)))
    ∧ (orderCheck .setPair o = none →
      let x := s.claimedFor (some .setPair)
      (f 0 = c.val ∨ f 0 = 0 ∨ c = 0 ∨ 8 ≤ f 0 → exec (.setPair o) s = .next (s.doneAt x .badField).follow)
      ∧ ∀ d : Chan, d.val = f 0 → d ≠ c → d ≠ 0 → c ≠ 0 →
        let ready := s.cstate c = .disabled ∧ s.cstate d = .disabled ∧ s.pairOf c = none ∧ s.pairOf d = none
        let y := { s.chan d with exc := { (s.chan d).exc with miss := 0 } }
        let pair : Pair := ⟨c, d, min (f 1) 32768⟩
        let u := s.setChan d y
        (¬ ready → exec (.setPair o) s = .next (s.doneAt x .wrongState).follow)
        ∧ (ready → 3 ≤ s.chc.pairs.length → exec (.setPair o) s = .next (s.doneAt x .noRoom).follow)
        ∧ (ready → s.chc.pairs.length < 3 → exec (.setPair o) s = .next
            (({ u with chc := { u.chc with pairs := u.chc.pairs ++ [pair] } } : State).doneAt x
              (if 32768 < f 1 then .adjusted else .ok)).follow))
    ∧ (orderCheck .clearPair o = none →
      let x := s.claimedFor (some .clearPair)
      (s.pairOf c = none → exec (.clearPair o) s = .next (s.doneAt x .wrongState).follow)
      ∧ ∀ p, s.pairOf c = some p →
        let free := s.cstate p.leader = .disabled ∧ s.cstate p.follower = .disabled
        let z := s.chan p.follower
        let y := { z with exc := { z.exc with q := ⟨z.qDemand, z.qDemand, z.exc.q.ni⟩ } }
        let u := s.setChan p.follower y
        (¬ free → exec (.clearPair o) s = .next (s.doneAt x .wrongState).follow)
        ∧ (free → exec (.clearPair o) s = .next
            (({ u with chc := { u.chc with pairs := u.chc.pairs.filter fun q => q != p } } : State).doneAt x
              .ok).follow))

/-- CAPTURE fills the FREE context of the lower number and is in flight, or is refused BAD_FIELD, QUIESCED or BUSY; on
a TRIPPED channel it ends at once (R74, R78, R174). CANCEL ends every capture with its tag, or is refused NO_TARGET.
Context 0 before 1 is the model's choice (log 51). Without a claimed block there is no answer (log 1). -/
def Obligations.OrderCaptureCancel : Prop :=
  ∀ (s : State) (o : Order) (c : Chan), s.crw.held = false →
    let f := bodyField o
    (orderCheck .capture o = none → o.channel.toNat = c.val →
      let x := s.claimedFor (some .capture)
      let good := 1 ≤ f 0 ∧ f 0 ≤ 127 ∧ 1 ≤ f 2 ∧ 1 ≤ f 1 ∧ f 1 ≤ 256 ∧ f 3 % 4 = 0
      let cap : CapCtx := { CapCtx.free with
        state := .active, tag := o.tag, chan := c, mask := BitVec.ofNat 7 (f 0), decim := f 1, count := f 2,
        addr := BitVec.ofNat 32 (f 3 + 65536 * f 4), slot := s.takeSlot .capture }
      (¬ good → exec (.capture o) s = .next (s.doneAt x .badField).follow)
      ∧ (good → s.exc.state = .quiescing → exec (.capture o) s = .next (s.doneAt x .quiesced).follow)
      ∧ (good → s.exc.state ≠ .quiescing → s.lpe.cap0.state ≠ .free → s.lpe.cap1.state ≠ .free →
          exec (.capture o) s = .next (s.doneAt x .busy).follow)
      ∧ (∀ ctx, good → s.exc.state ≠ .quiescing → (s.cap ctx).state = .free →
          (ctx = true → s.lpe.cap0.state ≠ .free) →
          (s.cstate c ≠ .tripped →
            exec (.capture o) s = .next ((s.setCap ctx cap).activeAt x .ok).follow)
          ∧ (s.cstate c = .tripped → ∃ t, exec (.capture o) s = .next t ∧ (t.cap ctx).state = .free
            ∧ t.ch = s.ch ∧ ∀ i, s.takeSlot .capture = some i → i < s.exc.slots.length →
                t.exc.walk = (s.doneAt x .tripped).exc.walk
                ∧ t.exc.slots = (s.doneAt x .tripped).exc.slots)))
    ∧ (orderCheck .cancel o = none →
      let x := s.claimedFor (some .cancel)
      let live := fun (k : CapCtx) =>
        k.tag = BitVec.ofNat 16 (f 0) ∧ (k.state = .active ∨ k.state = .draining)
      (¬ live s.lpe.cap0 → ¬ live s.lpe.cap1 → exec (.cancel o) s = .next (s.doneAt x .noTarget).follow)
      ∧ (live s.lpe.cap0 ∨ live s.lpe.cap1 → ∃ t, exec (.cancel o) s = .next t
        ∧ t.exc.walk = (s.doneAt x .ok).exc.walk ∧ t.ch = s.ch
        ∧ ∀ ctx, (live (s.cap ctx) → (t.cap ctx).state = .free ∨ (t.cap ctx).state = .ending)
          ∧ (¬ live (s.cap ctx) → (t.cap ctx).state = (s.cap ctx).state ∧ (t.cap ctx).fifo = (s.cap ctx).fifo)))

/-- START, RUN and STOP (R81, R82, R85, R86, R88, R89, R111): the refusals in their order, and the order left in
flight with its channels CALIBRATING, still ARMED, or in RAMPDOWN with cause STOP. A low LOW_LEVEL input with action
TRIP trips the channels of a START at once; else their calibration sums and filters start anew (R83, R108, R109). A
STOP of a START in flight aborts it: the START ends ABORTED with S as stamp, and the channels are DISABLED (R85).
Several low inputs act in a free order (log 7). Without a claimed block there is no answer (log 1). -/
def Obligations.OrderStartRunStop : Prop :=
  ∀ (s : State) (o : Order) (c : Chan), s.crw.held = false → o.channel.toNat = c.val → s.PairsSafe →
    let all := fun (x : ChanState) => ∀ m ∈ s.members c, s.cstate m = x
    let begun := fun (k : LifeKind) (slot : Option Nat) =>
      s.setChan c { s.chan c with chc := { (s.chan c).chc with life := some ⟨k, o.tag, slot⟩ } }
    (orderCheck .start o = none →
      let x := s.claimedFor (some .start)
      let low := ∃ i, (s.tru.xt.get i).actsLow .trip = true
        ∧ ∃ m ∈ s.members c, (s.tru.xt.get i).set.route.getLsbD m.val = true
      let refused := fun (r : Result) => exec (.start o) s = .next (s.doneAt x r).follow
      (s.isFollower c = true → refused .wrongRole)
      ∧ (s.isFollower c = false → s.lifeOf c ≠ none → refused .busy)
      ∧ (s.isFollower c = false → s.lifeOf c = none →
        (¬ all .disabled → refused .wrongState)
        ∧ (all .disabled → s.exc.state = .quiescing → refused .quiesced)
        ∧ (all .disabled → s.exc.state ≠ .quiescing → s.pins.permit = false → refused .noPermit)
        ∧ (all .disabled → s.exc.state ≠ .quiescing → s.pins.permit = true →
            s.link.udc < s.dls.dc.uvRelease → refused .undervoltage)
        ∧ (all .disabled → s.exc.state ≠ .quiescing → s.pins.permit = true →
            s.dls.dc.uvRelease ≤ s.link.udc → ∃ t, exec (.start o) s = .next t ∧ t.mod = s.mod
            ∧ (∀ d, d ∉ s.members c → t.chan d = s.chan d)
            ∧ (¬ low → (s.activeAt x .ok).SameButChannels t
                ∧ t.lifeOf c = some ⟨.start, o.tag, s.takeSlot .start⟩
                ∧ ∀ m ∈ s.members c, t.cstate m = .calibrating ∧ (t.chan m).smu.n = 0
                    ∧ (t.chan m).smu.sumA = 0 ∧ (t.chan m).smu.sumB = 0
                    ∧ (∀ leg, ((t.chan m).tru.oc.get leg).count = 0 ∧ ((t.chan m).tru.oc.get leg).due = false)
                    ∧ (t.chan m).tru.gfCount = 0 ∧ (t.chan m).tru.gfDue = false ∧ (t.chan m).tru.fresh = true)
            ∧ (low → t.lifeOf c = none ∧ ∀ m ∈ s.members c, t.cstate m = .tripped))))
    ∧ (orderCheck .run o = none →
      let x := s.claimedFor (some .run)
      let refused := fun (r : Result) => exec (.run o) s = .next (s.doneAt x r).follow
      (s.isFollower c = true → refused .wrongRole)
      ∧ (s.isFollower c = false → s.lifeOf c ≠ none → refused .busy)
      ∧ (s.isFollower c = false → s.lifeOf c = none →
        (s.exc.state = .quiescing → refused .quiesced)
        ∧ (s.exc.state ≠ .quiescing → ¬ all .armed → refused .wrongState)
        ∧ (s.exc.state ≠ .quiescing → all .armed →
            exec (.run o) s = .next ((begun .run (s.takeSlot .run)).activeAt x .ok).follow)))
    ∧ (orderCheck .stop o = none →
      let x := s.claimedFor (some .stop)
      let refused := fun (r : Result) => exec (.stop o) s = .next (s.doneAt x r).follow
      (s.isFollower c = true → refused .wrongRole)
      ∧ (s.isFollower c = false → s.lifeOf c = none → s.cstate c ≠ .running → refused .wrongState)
      ∧ (s.isFollower c = false → s.lifeOf c = none → s.cstate c = .running →
          ∃ t, exec (.stop o) s = .next t ∧ (s.activeAt x .ok).SameButChannels
            { t with lpe := s.lpe }
          ∧ t.lifeOf c = some ⟨.stop, o.tag, s.takeSlot .stop⟩
          ∧ (∀ m ∈ s.members c, t.cstate m = .rampdown ∧ (t.chan m).chc.rampCause = .stop)
          ∧ ∀ d, d ∉ s.members c → t.chan d = s.chan d)
      ∧ (s.isFollower c = false → ∀ l, s.lifeOf c = some l →
        (l.kind ≠ .start → refused .busy)
        ∧ (l.kind = .start → ∃ t, exec (.stop o) s = .next t ∧ t.exc.walk = (s.doneAt x .ok).exc.walk
          ∧ t.lifeOf c = none ∧ (∀ m ∈ s.members c, t.cstate m = .disabled)
          ∧ (∀ i, l.slot = some i → s.takeSlot .stop ≠ some i → s.Completes t i .aborted s.mod.s)
          ∧ ∀ d, d ∉ s.members c → t.chan d = s.chan d)))

/-- DISABLE and RELEASE (R81, R85, R92, R94): the refusals in their order. A DISABLE takes its channels to DISABLED
from CALIBRATING, CHARGING, ARMED and RAMPDOWN, ending a START or STOP in flight ABORTED with S as stamp; their
waiting sets and triggers are gone. A RELEASE of TRIPPED channels with no cause present takes them to DISABLED with
trip record and history clear. Without a claimed block there is no answer (log 1). -/
def Obligations.OrderDisableRelease : Prop :=
  ∀ (s : State) (o : Order) (c : Chan), s.crw.held = false → o.channel.toNat = c.val → s.PairsSafe →
    let off := fun (t : State) => (∀ m ∈ s.members c, t.cstate m = .disabled
        ∧ ∀ leg, ((t.chan m).mod.legs.get leg).latchU = false ∧ ((t.chan m).mod.legs.get leg).latchL = false)
      ∧ (∀ z ∈ t.lpe.ready, z.chan ∉ s.members c) ∧ t.lifeOf c = none
      ∧ (∀ k w, (t.conv.get k).waiting = some w → w.chan ∉ s.members c)
      ∧ (∀ d, d ∉ s.members c → t.chan d = s.chan d) ∧ t.mod = s.mod ∧ t.tru = s.tru ∧ t.crw = s.crw
    (orderCheck .disable o = none →
      let x := s.claimedFor (some .disable)
      let refused := fun (r : Result) => exec (.disable o) s = .next (s.doneAt x r).follow
      let may := ∀ m ∈ s.members c, s.cstate m = .calibrating ∨ s.cstate m = .charging ∨ s.cstate m = .armed
        ∨ s.cstate m = .rampdown
      (s.isFollower c = true → refused .wrongRole)
      ∧ (s.isFollower c = false → s.lifeOf c = none → ¬ may → refused .wrongState)
      ∧ (s.isFollower c = false → s.lifeOf c = none → may → ∃ t, exec (.disable o) s = .next t
          ∧ t.exc.walk = (s.doneAt x .ok).exc.walk ∧ off t)
      ∧ (s.isFollower c = false → ∀ l, s.lifeOf c = some l →
        (l.kind = .run → refused .busy)
        ∧ (l.kind ≠ .run → ∃ t, exec (.disable o) s = .next t
          ∧ t.exc.walk = (s.doneAt x .ok).exc.walk ∧ off t
          ∧ ∀ i, l.slot = some i → s.takeSlot .disable ≠ some i → s.Completes t i .aborted s.mod.s)))
    ∧ (orderCheck .release o = none →
      let x := s.claimedFor (some .release)
      let refused := fun (r : Result) => exec (.release o) s = .next (s.doneAt x r).follow
      let tripped := ∀ m ∈ s.members c, s.cstate m = .tripped
      let present := s.pins.permit = false ∨ s.link.udc < s.dls.dc.uvRelease ∨ s.dls.dc.ov ≤ s.link.udc
        ∨ ∃ m ∈ s.members c, (∃ leg, ((s.chan m).tru.oc.get leg).active = true) ∨ (s.chan m).tru.gfLow = true
          ∨ ∃ i, (s.tru.xt.get i).set.proc = .lowLevel ∧ (s.tru.xt.get i).set.action = .trip
            ∧ (s.tru.xt.get i).set.route.getLsbD m.val = true ∧ (s.tru.xt.get i).raw = false
      (s.isFollower c = true → refused .wrongRole)
      ∧ (s.isFollower c = false → s.lifeOf c ≠ none → refused .busy)
      ∧ (s.isFollower c = false → s.lifeOf c = none → ¬ tripped → refused .wrongState)
      ∧ (s.isFollower c = false → s.lifeOf c = none → tripped → present → refused .causePresent)
      ∧ (s.isFollower c = false → s.lifeOf c = none → tripped → ¬ present → ∃ t, exec (.release o) s = .next t
          ∧ t.exc.walk = (s.doneAt x .ok).exc.walk ∧ off t
          ∧ ∀ m ∈ s.members c, (t.chan m).tru.cause = none ∧ (t.chan m).tru.detail = 0
            ∧ (t.chan m).tru.later = 0 ∧ (t.chan m).tru.action = .pulseBlock ∧ (t.chan m).lpe.hist = []
            ∧ (t.chan m).lpe.frozen = false))

/-! ### The loop computation -/

/-- The current limit and the voltage limit of every job: the references and voltages are the clamped demands and
outputs, inside the circle of the effective limit, with the flag set exactly where a clamp changes a value, and these
are what a full job commits. The q demand is the sheet's, the follower's share or the ramp with its step (R45, R46,
R50), the d demand is 0, the sheet's or the field table's at the floored speed's magnitude, interpolated between the
breakpoints and never outside their currents (R47, R48), and a limit scale as read lies in 0..32768. -/
def Obligations.CurrentAndVoltageLimits : Prop :=
  ∀ (j : JobIn) (s : State) (x : SampleSet) (o : Order) (c : Chan) (ws rest : List Word) (e : Entry) (l : Nat),
    (readEntry c ws = some (e, rest) → e.ls = some l → l ≤ 32768)
    ∧ (∀ (x m : Int), 0 ≤ m → (x < -m → clampSym x m = -m) ∧ (-m ≤ x → x ≤ m → clampSym x m = x)
        ∧ (m < x → clampSym x m = m))
    ∧ (∀ x : Int, sat16 x = clampSym x 32767)
    ∧ (j.idDem = match j.dSource with
        | .zero => 0
        | .sheet => j.idSheet
        | .table => fieldLookup j.table (min (j.w.toInt / 65536).natAbs 32767))
    ∧ (∀ (k : FieldTable) (key : Nat), k.Pairwise (fun a b => a.1 < b.1) →
      (k = [] → fieldLookup k key = 0)
      ∧ (∀ a, k.head? = some a → key ≤ a.1 → fieldLookup k key = a.2)
      ∧ (∀ a, k.getLast? = some a → a.1 ≤ key → fieldLookup k key = a.2)
      ∧ ∀ i a b, k[i]? = some a → k[i + 1]? = some b → a.1 ≤ key → key < b.1 →
        fieldLookup k key = a.2 + ((b.2 - a.2) * ((key : Int) - a.1) + ((b.1 - a.1) / 2 : Nat)) / ((b.1 : Int) - a.1)
        ∧ min a.2 b.2 ≤ fieldLookup k key ∧ fieldLookup k key ≤ max a.2 b.2)
    ∧ (∀ (x : Int) (step : Nat), (x.natAbs ≤ step → rampToward x step = 0)
        ∧ ((step : Int) < x → rampToward x step = x - step) ∧ (x < -(step : Int) → rampToward x step = x + step))
    ∧ j.rampStep = (if j.rampCause = .fastStop then j.limits.fastStep else j.limits.rampStep)
    ∧ (j.iqDem = if j.state = .rampdown then rampToward j.lastIqRef j.rampStep
        else match j.lead with
          | some ld => sat16 ((ld.iqLead * (ld.share : Int) + 16384) / 32768 + j.offset)
          | none => j.iqSheet)
    ∧ (j.imaxEff = j.limits.imax * j.ls.getD 32768 / 2 ^ 15
      ∧ j.idRef = clampSym j.idDem (min j.limits.idmax j.imaxEff : Nat)
      ∧ j.iqLim ^ 2 ≤ j.imaxEff ^ 2 - j.idRef.natAbs ^ 2
      ∧ j.imaxEff ^ 2 - j.idRef.natAbs ^ 2 < (j.iqLim + 1) ^ 2
      ∧ j.iqRef = clampSym j.iqDem j.iqLim
      ∧ (j.limI = true ↔ j.idRef ≠ j.idDem ∨ j.iqRef ≠ j.iqDem)
      ∧ (j.imaxEff = 0 → j.idRef = 0 ∧ j.iqRef = 0)
      ∧ j.idRef.natAbs ≤ min j.limits.idmax j.imaxEff
      ∧ j.idRef ^ 2 + j.iqRef ^ 2 ≤ (j.imaxEff : Int) ^ 2)
    ∧ (j.vMax = j.limits.mlim * j.udc / 2 ^ 15
      ∧ j.vd = clampSym j.vdU j.vMax
      ∧ (∃ m : Nat, m ^ 2 ≤ j.vMax ^ 2 - j.vd.natAbs ^ 2 ∧ j.vMax ^ 2 - j.vd.natAbs ^ 2 < (m + 1) ^ 2
          ∧ j.vq = clampSym j.vqU m)
      ∧ (j.limV = true ↔ j.vd ≠ j.vdU ∨ j.vq ≠ j.vqU)
      ∧ (j.vd.natAbs = j.vMax → j.vq = 0) ∧ (j.udc = 0 → j.vMax = 0 ∧ j.vd = 0 ∧ j.vq = 0)
      ∧ (j.limits.mlim ≤ 32767 → j.udc ≤ 32767 → j.vMax ≤ 32766)
      ∧ j.vd ^ 2 + j.vq ^ 2 ≤ (j.vMax : Int) ^ 2)
    ∧ (let r := fullResult j
      r.idRef = j.idRef ∧ r.iqRef = j.iqRef ∧ r.vd = j.vd ∧ r.vq = j.vq ∧ r.limI = j.limI ∧ r.limV = j.limV
      ∧ r.cmp = j.compares)
    ∧ (s.jobInputs x).udc = s.link.udc ∧ (s.jobInputs x).ls = (s.chan x.chan).exc.ls
    ∧ (s.jobInputs x).limits = (s.chan x.chan).chc.limits
    ∧ (limitsOf o).1.imax ≤ 32767 ∧ (limitsOf o).1.idmax ≤ 32767 ∧ (limitsOf o).1.mlim ≤ 32767
    ∧ Limits.reset.imax = 16000 ∧ Limits.reset.idmax = 8000 ∧ Limits.reset.mlim = 31130

/-- What the stages compute and the ranges that follow: the phase currents and the overcurrent comparison (R39, R40),
the angles and the sine table, every entry of which is the nearest integer (R42, R43), the stationary and rotor
currents (R41, R44), errors, proportional terms, integrators and decoupling (R51 to R54), the anti-windup (R56), the
rotation back and the scaling by r (R57, R58), the phase duties with their sum (R59), and the centred compare values
in 0..P that keep the minimum pulse (R60, R61). -/
def Obligations.StageResults : Prop :=
  ∀ (j : JobIn) (mA mB : Int) (o : Order),
    (j.ia = sat16 ((((j.rawA : Int) - j.offA) * j.gI + 128) / 256)
      ∧ j.ib = sat16 ((((j.rawB : Int) - j.offB) * j.gI + 128) / 256) ∧ j.ic = sat16 (-j.ia - j.ib)
      ∧ (j.overItrip = true ↔
          j.limits.itrip < j.ia.natAbs ∨ j.limits.itrip < j.ib.natAbs ∨ j.limits.itrip < j.ic.natAbs)
      ∧ (∀ x : Int, (x < -32767 → sat16 x = -32767) ∧ (-32767 ≤ x → x ≤ 32767 → sat16 x = x)
          ∧ (32767 < x → sat16 x = 32767)))
    ∧ ((j.thetaS : Int) = ((j.angle.toNat : Int) + j.w.toInt / 2) % 2 ^ 32 / 65536
      ∧ (j.thetaO : Int) = ((j.angle.toNat : Int) + j.w.toInt * j.gains.adv / 16) % 2 ^ 32 / 65536
      ∧ (∀ theta, theta < 65536 →
          sine theta = sineT (theta / 64)
              + ((sineT (theta / 64 + 1) - sineT (theta / 64)) * ((theta % 64 : Nat) : Int) + 32) / 64
          ∧ cosine theta = sine ((theta + 16384) % 65536) ∧ (sine theta).natAbs ≤ 32767)
      ∧ (∀ n, n ≤ 256 → 2 * (10 ^ 20 * sineT n - 32767 * sineSeries n).natAbs < 10 ^ 20)
      ∧ (∀ n, n ≤ 512 → sineT (512 + n) = -sineT n ∧ sineT (512 - n) = sineT n))
    ∧ (j.iBeta = sat16 (((j.ia + 2 * j.ib) * 18919 + 16384) / 32768)
      ∧ -98301 ≤ j.ia + 2 * j.ib ∧ j.ia + 2 * j.ib ≤ 98301
      ∧ j.id = sat16 ((j.ia * cosine j.thetaS + j.iBeta * sine j.thetaS + 16384) / 32768)
      ∧ j.iq = sat16 ((j.iBeta * cosine j.thetaS - j.ia * sine j.thetaS + 16384) / 32768))
    ∧ (j.eD = j.idRef - j.id ∧ j.eQ = j.iqRef - j.iq
      ∧ (j.limits.idmax ≤ 32767 → j.eD.natAbs ≤ 65534)
      ∧ (j.limits.imax ≤ 32767 → (∀ l, j.ls = some l → l ≤ 32768) → j.eQ.natAbs ≤ 65534)
      ∧ j.vdU = (j.eD * j.gains.kpD + 512) / 1024 + j.iD' / 65536 + j.vdDec + j.vdFf
      ∧ j.vqU = (j.eQ * j.gains.kpQ + 512) / 1024 + j.iQ' / 65536 + j.vqDec + j.vqFf
      ∧ j.iD' = clampSym (j.iD + j.eD * j.gains.kiD) 2147418112
      ∧ j.iQ' = clampSym (j.iQ + j.eQ * j.gains.kiQ) 2147418112
      ∧ j.vdDec = (if j.gains.decoupling = true then
          -((j.w.toInt / 65536 * (((j.gains.lq : Int) * j.iq + 16384) / 32768) + 2048) / 4096) else 0)
      ∧ j.vqDec = (if j.gains.decoupling = true then
          (j.w.toInt / 65536 * (((j.gains.ld : Int) * j.id + 16384) / 32768 + j.gains.psi) + 2048) / 4096 else 0)
      ∧ (gainsOf o).1.kpD ≤ 32767 ∧ (gainsOf o).1.kpQ ≤ 32767
      ∧ Gains.reset.kpD = 1024 ∧ Gains.reset.kpQ = 1024)
    ∧ (j.vAlpha = sat16 ((j.vd * cosine j.thetaO - j.vq * sine j.thetaO + 16384) / 32768)
      ∧ j.vBeta = sat16 ((j.vd * sine j.thetaO + j.vq * cosine j.thetaO + 16384) / 32768)
      ∧ j.mAlpha = sat16 ((j.vAlpha * j.r + 16384) / 32768) ∧ j.mBeta = sat16 ((j.vBeta * j.r + 16384) / 32768))
    ∧ (let half := (mA + 1) / 2
      let h := (mB * 28378 + 16384) / 32768
      let d := phaseDuties mA mB
      d.a = mA ∧ d.b = sat16 (h - half) ∧ d.c = sat16 (-h - half)
      ∧ ((h - half).natAbs ≤ 32767 → (-h - half).natAbs ≤ 32767 →
          d.a + d.b + d.c = mA - 2 * half ∧ d.a + d.b + d.c = if mA % 2 = 0 then 0 else -1))
    ∧ (let m := phaseDuties j.mAlpha j.mBeta
      ∀ leg top bottom, (∃ l, m.get l = top) → (∃ l, m.get l = bottom) →
        (∀ l, m.get l ≤ top ∧ bottom ≤ m.get l) →
        let duty := sat16 (((m.get leg - (top + bottom) / 2) * 18919 + 8192) / 16384)
        let x := ((j.p : Int) * (duty + 32768) + 32768) / 65536
        0 ≤ x ∧ x ≤ j.p ∧ (j.compares.get leg : Int) =
          if x < j.cmin then 0 else if (j.p : Int) - j.cmin < x then (j.p : Int) else x)
    ∧ (∀ leg, j.compares.get leg ≤ j.p ∧ (j.compares.get leg = 0 ∨ j.compares.get leg = j.p
        ∨ (j.cmin ≤ j.compares.get leg ∧ j.compares.get leg + j.cmin ≤ j.p)))
    ∧ ((fullResult j).iD = if j.vd ≠ j.vdU ∧ 0 < j.eD * j.vdU then j.iD else j.iD')
    ∧ ((fullResult j).iQ = if j.vq ≠ j.vqU ∧ 0 < j.eQ * j.vqU then j.iQ else j.iQ')

/-! ### What every step keeps -/

/-- The gates stay safe through every step: a switch is on only while wanted under PERMIT and outside the reset input,
and the two switches of a leg are never on together, at the outputs either (R12 to R17, R19). -/
def Obligations.GatesStaySafe : Prop :=
  ∀ (s t : State), s.GatesSafe → step s = .next t →
    t.GatesSafe ∧ ∀ c leg, ¬ (t.gateOut c leg true = true ∧ t.gateOut c leg false = true)

/-- A switch turns on only after the deadtime: if a step turns it on, its complement is off and has been off, before
that step, for the effective deadtime under P as before or as after the step (R7, R14). -/
def Obligations.TurnOnWaitsDeadtime : Prop :=
  ∀ (s t : State) (c : Chan) (leg : Leg), step s = .next t →
    let g := (s.chan c).mod.legs.get leg
    let h := (t.chan c).mod.legs.get leg
    let d := (t.chan c).chc.mode.deadtime
    (g.latchU = false → h.latchU = true → h.latchL = false
      ∧ min (min d (s.mod.p / 4)) (min d (t.mod.p / 4)) ≤ if g.latchL then 0 else g.offL)
    ∧ (g.latchL = false → h.latchL = true → h.latchU = false
      ∧ min (min d (s.mod.p / 4)) (min d (t.mod.p / 4)) ≤ if g.latchU then 0 else g.offU)

/-- The pair table stays as R95 says, the members of a pair move together (R96, R106), and a lifecycle order in flight
always stands over channels in its states (R81). -/
def Obligations.PairsAndLivesStaySafe : Prop :=
  ∀ (s t : State), s.PairsSafe → s.LivesSafe → step s = .next t → t.PairsSafe ∧ t.LivesSafe

/-- The timebase, the DC link, the brake and the bounded lists and counters stay in their ranges (R1 to R5, R27, R28,
R72, R76, R116, R121, R127, R142, R156, R160, R184). -/
def Obligations.RangesStaySafe : Prop :=
  ∀ (s t : State), s.TimeSafe → s.LinkSafe → s.BrakeSafe → s.BoundsSafe → step s = .next t →
    t.TimeSafe ∧ t.LinkSafe ∧ t.BrakeSafe ∧ t.BoundsSafe

/-- Which command can bring a channel into each state, and from which one (R80): only a release or a reset takes it
out of TRIPPED, only a START out of DISABLED, only a servo boundary into RUNNING, and so on for every state of the
table; into RAMPDOWN from RUNNING a stop, a quiesce, a fast stop, an external input or a servo boundary, and into
TRIPPED the sources of R103, from DISABLED a START alone. A command may come at any moment (log 1). -/
def Obligations.LifecycleMoves : Prop :=
  ∀ (s t : State) (i : Instr) (c : Chan), s.PairsSafe → s.LivesSafe → exec i s = .next t →
    s.cstate c ≠ t.cstate c →
    i = .hardwareReset ∨ i = .softReset ∨ (∃ p, i = .hardwareResetRelease p)
    ∨ (match t.cstate c with
      | .disabled => (∃ o, s.cstate c = .tripped ∧ i = .release o) ∨ ((s.cstate c).inService = true
          ∧ s.cstate c ≠ .running ∧ ((∃ o, i = .disable o ∨ i = .stop o) ∨ i = .quiesce ∨ i = .jobComplete))
      | .calibrating => s.cstate c = .disabled ∧ ∃ o, i = .start o
      | .charging => s.cstate c = .calibrating ∧ i = .jobComplete
      | .armed => (s.cstate c = .charging ∧ i = .chargePulseEnd c) ∨ (s.cstate c = .rampdown ∧ i = .jobComplete)
      | .running => s.cstate c = .armed ∧ i = .servoBoundary
      | .rampdown => (s.cstate c = .armed ∧ i = .servoBoundary) ∨ (s.cstate c = .running
          ∧ (i = .servoBoundary ∨ i = .quiesce ∨ i = .fastStop ∨ (∃ o, i = .stop o) ∨ ∃ k, i = .xtFilteredEdge k))
      | .tripped => (∃ o, s.cstate c = .disabled ∧ i = .start o) ∨ ((s.cstate c).inService = true
          ∧ (i = .servoBoundary ∨ i = .fastStop ∨ i = .permitInactive ∨ i = .jobComplete ∨ i = .tickCountOverrun
            ∨ (∃ n, i = .comparatorWindowEnd n) ∨ (∃ raw, i = .dcSample raw) ∨ (∃ d, i = .carrierZero d)
            ∨ (∃ d leg, i = .overcurrent d leg) ∨ (∃ d, i = .gateFault d) ∨ ∃ k, i = .xtFilteredEdge k)))

end
end

