-- ==== Sys2Proof/Laws/Bank.lean ====
section
/-! SUPPORT. Reading a bank after a change of it. -/

namespace Sys2Proof

variable {α β : Type}

@[simp] theorem Bank3.get_set_self (k : Bank3 α) (l : Leg) (x : α) : (k.set l x).get l = x := by
  cases l <;> rfl

theorem Bank3.get_set_ne (k : Bank3 α) {l m : Leg} (x : α) (h : m ≠ l) : (k.set l x).get m = k.get m := by
  cases l <;> cases m <;> first | rfl | exact absurd rfl h

@[simp] theorem Bank3.get_map (f : α → β) (k : Bank3 α) (l : Leg) : (k.map f).get l = f (k.get l) := by
  cases l <;> rfl

@[simp] theorem Bank3.get_const (x : α) (l : Leg) : (Bank3.const x).get l = x := by cases l <;> rfl

/-- The numbers of four things, one by one. -/
theorem quad_cases {p : Quad → Prop} (h0 : p 0) (h1 : p 1) (h2 : p 2) (h3 : p 3) (i : Quad) : p i := by
  match i with
  | 0 => exact h0
  | 1 => exact h1
  | 2 => exact h2
  | 3 => exact h3

/-- The eight channels, one by one. -/
theorem chan_cases {p : Chan → Prop} (h0 : p 0) (h1 : p 1) (h2 : p 2) (h3 : p 3) (h4 : p 4) (h5 : p 5)
    (h6 : p 6) (h7 : p 7) (i : Chan) : p i := by
  match i with
  | 0 => exact h0
  | 1 => exact h1
  | 2 => exact h2
  | 3 => exact h3
  | 4 => exact h4
  | 5 => exact h5
  | 6 => exact h6
  | 7 => exact h7

@[simp] theorem Bank4.get_set_self (k : Bank4 α) (i : Quad) (x : α) : (k.set i x).get i = x := by
  refine quad_cases (p := fun i => (k.set i x).get i = x) ?_ ?_ ?_ ?_ i <;> rfl

theorem Bank4.get_set_ne (k : Bank4 α) {i j : Quad} (x : α) (h : j ≠ i) : (k.set i x).get j = k.get j := by
  revert h
  refine quad_cases (p := fun i => ∀ j, j ≠ i → (k.set i x).get j = k.get j) ?_ ?_ ?_ ?_ i j <;> intro j
  · refine quad_cases (p := fun j => j ≠ 0 → (k.set 0 x).get j = k.get j) ?_ ?_ ?_ ?_ j <;> intro h <;>
      first | rfl | exact absurd rfl h
  · refine quad_cases (p := fun j => j ≠ 1 → (k.set 1 x).get j = k.get j) ?_ ?_ ?_ ?_ j <;> intro h <;>
      first | rfl | exact absurd rfl h
  · refine quad_cases (p := fun j => j ≠ 2 → (k.set 2 x).get j = k.get j) ?_ ?_ ?_ ?_ j <;> intro h <;>
      first | rfl | exact absurd rfl h
  · refine quad_cases (p := fun j => j ≠ 3 → (k.set 3 x).get j = k.get j) ?_ ?_ ?_ ?_ j <;> intro h <;>
      first | rfl | exact absurd rfl h

@[simp] theorem Bank4.get_map (f : α → β) (k : Bank4 α) (i : Quad) : (k.map f).get i = f (k.get i) := by
  refine quad_cases (p := fun i => (k.map f).get i = f (k.get i)) ?_ ?_ ?_ ?_ i <;> rfl

@[simp] theorem Bank4.get_const (x : α) (i : Quad) : (Bank4.const x).get i = x := by
  refine quad_cases (p := fun i => (Bank4.const x).get i = x) ?_ ?_ ?_ ?_ i <;> rfl

@[simp] theorem Bank8.get_set_self (k : Bank8 α) (i : Chan) (x : α) : (k.set i x).get i = x := by
  refine chan_cases (p := fun i => (k.set i x).get i = x) ?_ ?_ ?_ ?_ ?_ ?_ ?_ ?_ i <;> rfl

theorem Bank8.get_set_ne (k : Bank8 α) {i j : Chan} (x : α) (h : j ≠ i) : (k.set i x).get j = k.get j := by
  revert h
  refine chan_cases (p := fun i => ∀ j, j ≠ i → (k.set i x).get j = k.get j) ?_ ?_ ?_ ?_ ?_ ?_ ?_ ?_ i j <;> intro j
  · refine chan_cases (p := fun j => j ≠ 0 → (k.set 0 x).get j = k.get j) ?_ ?_ ?_ ?_ ?_ ?_ ?_ ?_ j <;> intro h <;>
      first | rfl | exact absurd rfl h
  · refine chan_cases (p := fun j => j ≠ 1 → (k.set 1 x).get j = k.get j) ?_ ?_ ?_ ?_ ?_ ?_ ?_ ?_ j <;> intro h <;>
      first | rfl | exact absurd rfl h
  · refine chan_cases (p := fun j => j ≠ 2 → (k.set 2 x).get j = k.get j) ?_ ?_ ?_ ?_ ?_ ?_ ?_ ?_ j <;> intro h <;>
      first | rfl | exact absurd rfl h
  · refine chan_cases (p := fun j => j ≠ 3 → (k.set 3 x).get j = k.get j) ?_ ?_ ?_ ?_ ?_ ?_ ?_ ?_ j <;> intro h <;>
      first | rfl | exact absurd rfl h
  · refine chan_cases (p := fun j => j ≠ 4 → (k.set 4 x).get j = k.get j) ?_ ?_ ?_ ?_ ?_ ?_ ?_ ?_ j <;> intro h <;>
      first | rfl | exact absurd rfl h
  · refine chan_cases (p := fun j => j ≠ 5 → (k.set 5 x).get j = k.get j) ?_ ?_ ?_ ?_ ?_ ?_ ?_ ?_ j <;> intro h <;>
      first | rfl | exact absurd rfl h
  · refine chan_cases (p := fun j => j ≠ 6 → (k.set 6 x).get j = k.get j) ?_ ?_ ?_ ?_ ?_ ?_ ?_ ?_ j <;> intro h <;>
      first | rfl | exact absurd rfl h
  · refine chan_cases (p := fun j => j ≠ 7 → (k.set 7 x).get j = k.get j) ?_ ?_ ?_ ?_ ?_ ?_ ?_ ?_ j <;> intro h <;>
      first | rfl | exact absurd rfl h

@[simp] theorem Bank8.get_ofFn (f : Chan → α) (i : Chan) : (Bank8.ofFn f).get i = f i := by
  refine chan_cases (p := fun i => (Bank8.ofFn f).get i = f i) ?_ ?_ ?_ ?_ ?_ ?_ ?_ ?_ i <;> rfl

@[simp] theorem Bank8.get_map (f : α → β) (k : Bank8 α) (i : Chan) : (k.map f).get i = f (k.get i) := by
  refine chan_cases (p := fun i => (k.map f).get i = f (k.get i)) ?_ ?_ ?_ ?_ ?_ ?_ ?_ ?_ i <;> rfl

/-- Two banks with the same eight things are the same. -/
theorem Bank8.ext_get {k m : Bank8 α} (h : ∀ i, k.get i = m.get i) : k = m := by
  have h0 := h 0; have h1 := h 1; have h2 := h 2; have h3 := h 3
  have h4 := h 4; have h5 := h 5; have h6 := h 6; have h7 := h 7
  cases k; cases m
  simp only [Bank8.mk.injEq]
  exact ⟨h0, h1, h2, h3, h4, h5, h6, h7⟩

@[simp] theorem Chan.mem_all (c : Chan) : c ∈ Chan.all := by
  refine chan_cases (p := fun c => c ∈ Chan.all) ?_ ?_ ?_ ?_ ?_ ?_ ?_ ?_ c <;> decide

@[simp] theorem Quad.mem_all (i : Quad) : i ∈ Quad.all := by
  refine quad_cases (p := fun i => i ∈ Quad.all) ?_ ?_ ?_ ?_ i <;> decide

end Sys2Proof
end

