-- ==== Sys2Proof/Laws/State.lean ====
section
/-! SUPPORT. What the single updates of the state leave as it is, field by field, and what a channel reads after one. -/

namespace Sys2Proof.Machine

@[simp] theorem State.raise_pins (s : State) (n : Notice) :
    (s.raise n).pins = s.pins := rfl
@[simp] theorem State.raise_mod (s : State) (n : Notice) :
    (s.raise n).mod = s.mod := rfl
@[simp] theorem State.raise_conv (s : State) (n : Notice) :
    (s.raise n).conv = s.conv := rfl
@[simp] theorem State.raise_link (s : State) (n : Notice) :
    (s.raise n).link = s.link := rfl
@[simp] theorem State.raise_lpe (s : State) (n : Notice) :
    (s.raise n).lpe = s.lpe := rfl
@[simp] theorem State.raise_chc (s : State) (n : Notice) :
    (s.raise n).chc = s.chc := rfl
@[simp] theorem State.raise_tru (s : State) (n : Notice) :
    (s.raise n).tru = s.tru := rfl
@[simp] theorem State.raise_dls (s : State) (n : Notice) :
    (s.raise n).dls = s.dls := rfl
@[simp] theorem State.raise_exc (s : State) (n : Notice) :
    (s.raise n).exc = s.exc := rfl
@[simp] theorem State.raise_mpt (s : State) (n : Notice) :
    (s.raise n).mpt = s.mpt := rfl
@[simp] theorem State.raise_ch (s : State) (n : Notice) :
    (s.raise n).ch = s.ch := rfl
@[simp] theorem State.raise_pending (s : State) (n : Notice) :
    (s.raise n).pending = s.pending := rfl
@[simp] theorem State.raise_counted (s : State) (n : Notice) :
    (s.raise n).counted = s.counted := rfl
@[simp] theorem State.raise_draws (s : State) (n : Notice) :
    (s.raise n).draws = s.draws := rfl
@[simp] theorem State.raise_crw_held (s : State) (n : Notice) :
    (s.raise n).crw.held = s.crw.held := rfl
@[simp] theorem State.raise_crw_softHold (s : State) (n : Notice) :
    (s.raise n).crw.softHold = s.crw.softHold := rfl
@[simp] theorem State.raise_crw_clock (s : State) (n : Notice) :
    (s.raise n).crw.clock = s.crw.clock := rfl
@[simp] theorem State.raise_crw_straps (s : State) (n : Notice) :
    (s.raise n).crw.straps = s.crw.straps := rfl
@[simp] theorem State.raise_crw_base (s : State) (n : Notice) :
    (s.raise n).crw.base = s.crw.base := rfl

@[simp] theorem State.reject_pins (s : State) (r : Reason) :
    (s.reject r).pins = s.pins := rfl
@[simp] theorem State.reject_mod (s : State) (r : Reason) :
    (s.reject r).mod = s.mod := rfl
@[simp] theorem State.reject_conv (s : State) (r : Reason) :
    (s.reject r).conv = s.conv := rfl
@[simp] theorem State.reject_link (s : State) (r : Reason) :
    (s.reject r).link = s.link := rfl
@[simp] theorem State.reject_lpe (s : State) (r : Reason) :
    (s.reject r).lpe = s.lpe := rfl
@[simp] theorem State.reject_chc (s : State) (r : Reason) :
    (s.reject r).chc = s.chc := rfl
@[simp] theorem State.reject_tru (s : State) (r : Reason) :
    (s.reject r).tru = s.tru := rfl
@[simp] theorem State.reject_dls (s : State) (r : Reason) :
    (s.reject r).dls = s.dls := rfl
@[simp] theorem State.reject_exc (s : State) (r : Reason) :
    (s.reject r).exc = s.exc := rfl
@[simp] theorem State.reject_mpt (s : State) (r : Reason) :
    (s.reject r).mpt = s.mpt := rfl
@[simp] theorem State.reject_ch (s : State) (r : Reason) :
    (s.reject r).ch = s.ch := rfl
@[simp] theorem State.reject_pending (s : State) (r : Reason) :
    (s.reject r).pending = s.pending := rfl
@[simp] theorem State.reject_counted (s : State) (r : Reason) :
    (s.reject r).counted = s.counted := rfl
@[simp] theorem State.reject_draws (s : State) (r : Reason) :
    (s.reject r).draws = s.draws := rfl
@[simp] theorem State.reject_crw_held (s : State) (r : Reason) :
    (s.reject r).crw.held = s.crw.held := rfl
@[simp] theorem State.reject_crw_softHold (s : State) (r : Reason) :
    (s.reject r).crw.softHold = s.crw.softHold := rfl
@[simp] theorem State.reject_crw_clock (s : State) (r : Reason) :
    (s.reject r).crw.clock = s.crw.clock := rfl
@[simp] theorem State.reject_crw_straps (s : State) (r : Reason) :
    (s.reject r).crw.straps = s.crw.straps := rfl
@[simp] theorem State.reject_crw_base (s : State) (r : Reason) :
    (s.reject r).crw.base = s.crw.base := rfl

@[simp] theorem State.setChan_pins (s : State) (c : Chan) (x : Channel) :
    (s.setChan c x).pins = s.pins := rfl
@[simp] theorem State.setChan_crw (s : State) (c : Chan) (x : Channel) :
    (s.setChan c x).crw = s.crw := rfl
@[simp] theorem State.setChan_mod (s : State) (c : Chan) (x : Channel) :
    (s.setChan c x).mod = s.mod := rfl
@[simp] theorem State.setChan_conv (s : State) (c : Chan) (x : Channel) :
    (s.setChan c x).conv = s.conv := rfl
@[simp] theorem State.setChan_link (s : State) (c : Chan) (x : Channel) :
    (s.setChan c x).link = s.link := rfl
@[simp] theorem State.setChan_lpe (s : State) (c : Chan) (x : Channel) :
    (s.setChan c x).lpe = s.lpe := rfl
@[simp] theorem State.setChan_chc (s : State) (c : Chan) (x : Channel) :
    (s.setChan c x).chc = s.chc := rfl
@[simp] theorem State.setChan_tru (s : State) (c : Chan) (x : Channel) :
    (s.setChan c x).tru = s.tru := rfl
@[simp] theorem State.setChan_dls (s : State) (c : Chan) (x : Channel) :
    (s.setChan c x).dls = s.dls := rfl
@[simp] theorem State.setChan_exc (s : State) (c : Chan) (x : Channel) :
    (s.setChan c x).exc = s.exc := rfl
@[simp] theorem State.setChan_mpt (s : State) (c : Chan) (x : Channel) :
    (s.setChan c x).mpt = s.mpt := rfl
@[simp] theorem State.setChan_pending (s : State) (c : Chan) (x : Channel) :
    (s.setChan c x).pending = s.pending := rfl
@[simp] theorem State.setChan_counted (s : State) (c : Chan) (x : Channel) :
    (s.setChan c x).counted = s.counted := rfl
@[simp] theorem State.setChan_draws (s : State) (c : Chan) (x : Channel) :
    (s.setChan c x).draws = s.draws := rfl

@[simp] theorem State.modChan_pins (s : State) (c : Chan) (f : Channel → Channel) :
    (s.modChan c f).pins = s.pins := rfl
@[simp] theorem State.modChan_crw (s : State) (c : Chan) (f : Channel → Channel) :
    (s.modChan c f).crw = s.crw := rfl
@[simp] theorem State.modChan_mod (s : State) (c : Chan) (f : Channel → Channel) :
    (s.modChan c f).mod = s.mod := rfl
@[simp] theorem State.modChan_conv (s : State) (c : Chan) (f : Channel → Channel) :
    (s.modChan c f).conv = s.conv := rfl
@[simp] theorem State.modChan_link (s : State) (c : Chan) (f : Channel → Channel) :
    (s.modChan c f).link = s.link := rfl
@[simp] theorem State.modChan_lpe (s : State) (c : Chan) (f : Channel → Channel) :
    (s.modChan c f).lpe = s.lpe := rfl
@[simp] theorem State.modChan_chc (s : State) (c : Chan) (f : Channel → Channel) :
    (s.modChan c f).chc = s.chc := rfl
@[simp] theorem State.modChan_tru (s : State) (c : Chan) (f : Channel → Channel) :
    (s.modChan c f).tru = s.tru := rfl
@[simp] theorem State.modChan_dls (s : State) (c : Chan) (f : Channel → Channel) :
    (s.modChan c f).dls = s.dls := rfl
@[simp] theorem State.modChan_exc (s : State) (c : Chan) (f : Channel → Channel) :
    (s.modChan c f).exc = s.exc := rfl
@[simp] theorem State.modChan_mpt (s : State) (c : Chan) (f : Channel → Channel) :
    (s.modChan c f).mpt = s.mpt := rfl
@[simp] theorem State.modChan_pending (s : State) (c : Chan) (f : Channel → Channel) :
    (s.modChan c f).pending = s.pending := rfl
@[simp] theorem State.modChan_counted (s : State) (c : Chan) (f : Channel → Channel) :
    (s.modChan c f).counted = s.counted := rfl
@[simp] theorem State.modChan_draws (s : State) (c : Chan) (f : Channel → Channel) :
    (s.modChan c f).draws = s.draws := rfl

@[simp] theorem State.setSlot_pins (s : State) (i : Nat) (x : Slot) :
    (s.setSlot i x).pins = s.pins := rfl
@[simp] theorem State.setSlot_crw (s : State) (i : Nat) (x : Slot) :
    (s.setSlot i x).crw = s.crw := rfl
@[simp] theorem State.setSlot_mod (s : State) (i : Nat) (x : Slot) :
    (s.setSlot i x).mod = s.mod := rfl
@[simp] theorem State.setSlot_conv (s : State) (i : Nat) (x : Slot) :
    (s.setSlot i x).conv = s.conv := rfl
@[simp] theorem State.setSlot_link (s : State) (i : Nat) (x : Slot) :
    (s.setSlot i x).link = s.link := rfl
@[simp] theorem State.setSlot_lpe (s : State) (i : Nat) (x : Slot) :
    (s.setSlot i x).lpe = s.lpe := rfl
@[simp] theorem State.setSlot_chc (s : State) (i : Nat) (x : Slot) :
    (s.setSlot i x).chc = s.chc := rfl
@[simp] theorem State.setSlot_tru (s : State) (i : Nat) (x : Slot) :
    (s.setSlot i x).tru = s.tru := rfl
@[simp] theorem State.setSlot_dls (s : State) (i : Nat) (x : Slot) :
    (s.setSlot i x).dls = s.dls := rfl
@[simp] theorem State.setSlot_mpt (s : State) (i : Nat) (x : Slot) :
    (s.setSlot i x).mpt = s.mpt := rfl
@[simp] theorem State.setSlot_ch (s : State) (i : Nat) (x : Slot) :
    (s.setSlot i x).ch = s.ch := rfl
@[simp] theorem State.setSlot_pending (s : State) (i : Nat) (x : Slot) :
    (s.setSlot i x).pending = s.pending := rfl
@[simp] theorem State.setSlot_counted (s : State) (i : Nat) (x : Slot) :
    (s.setSlot i x).counted = s.counted := rfl
@[simp] theorem State.setSlot_draws (s : State) (i : Nat) (x : Slot) :
    (s.setSlot i x).draws = s.draws := rfl
@[simp] theorem State.setSlot_exc_state (s : State) (i : Nat) (x : Slot) :
    (s.setSlot i x).exc.state = s.exc.state := rfl
@[simp] theorem State.setSlot_exc_walk (s : State) (i : Nat) (x : Slot) :
    (s.setSlot i x).exc.walk = s.exc.walk := rfl

@[simp] theorem State.setCap_pins (s : State) (ctx : Bool) (x : CapCtx) :
    (s.setCap ctx x).pins = s.pins := rfl
@[simp] theorem State.setCap_crw (s : State) (ctx : Bool) (x : CapCtx) :
    (s.setCap ctx x).crw = s.crw := rfl
@[simp] theorem State.setCap_mod (s : State) (ctx : Bool) (x : CapCtx) :
    (s.setCap ctx x).mod = s.mod := rfl
@[simp] theorem State.setCap_conv (s : State) (ctx : Bool) (x : CapCtx) :
    (s.setCap ctx x).conv = s.conv := rfl
@[simp] theorem State.setCap_link (s : State) (ctx : Bool) (x : CapCtx) :
    (s.setCap ctx x).link = s.link := rfl
@[simp] theorem State.setCap_chc (s : State) (ctx : Bool) (x : CapCtx) :
    (s.setCap ctx x).chc = s.chc := rfl
@[simp] theorem State.setCap_tru (s : State) (ctx : Bool) (x : CapCtx) :
    (s.setCap ctx x).tru = s.tru := rfl
@[simp] theorem State.setCap_dls (s : State) (ctx : Bool) (x : CapCtx) :
    (s.setCap ctx x).dls = s.dls := rfl
@[simp] theorem State.setCap_exc (s : State) (ctx : Bool) (x : CapCtx) :
    (s.setCap ctx x).exc = s.exc := rfl
@[simp] theorem State.setCap_mpt (s : State) (ctx : Bool) (x : CapCtx) :
    (s.setCap ctx x).mpt = s.mpt := rfl
@[simp] theorem State.setCap_ch (s : State) (ctx : Bool) (x : CapCtx) :
    (s.setCap ctx x).ch = s.ch := rfl
@[simp] theorem State.setCap_pending (s : State) (ctx : Bool) (x : CapCtx) :
    (s.setCap ctx x).pending = s.pending := rfl
@[simp] theorem State.setCap_counted (s : State) (ctx : Bool) (x : CapCtx) :
    (s.setCap ctx x).counted = s.counted := rfl
@[simp] theorem State.setCap_draws (s : State) (ctx : Bool) (x : CapCtx) :
    (s.setCap ctx x).draws = s.draws := rfl
@[simp] theorem State.setCap_lpe_engine (s : State) (ctx : Bool) (x : CapCtx) :
    (s.setCap ctx x).lpe.engine = s.lpe.engine := by cases ctx <;> rfl
@[simp] theorem State.setCap_lpe_ready (s : State) (ctx : Bool) (x : CapCtx) :
    (s.setCap ctx x).lpe.ready = s.lpe.ready := by cases ctx <;> rfl

@[simp] theorem State.runSeq_pins (s : State) (x : Seq) :
    (s.runSeq x).pins = s.pins := rfl
@[simp] theorem State.runSeq_crw (s : State) (x : Seq) :
    (s.runSeq x).crw = s.crw := rfl
@[simp] theorem State.runSeq_mod (s : State) (x : Seq) :
    (s.runSeq x).mod = s.mod := rfl
@[simp] theorem State.runSeq_conv (s : State) (x : Seq) :
    (s.runSeq x).conv = s.conv := rfl
@[simp] theorem State.runSeq_link (s : State) (x : Seq) :
    (s.runSeq x).link = s.link := rfl
@[simp] theorem State.runSeq_lpe (s : State) (x : Seq) :
    (s.runSeq x).lpe = s.lpe := rfl
@[simp] theorem State.runSeq_chc (s : State) (x : Seq) :
    (s.runSeq x).chc = s.chc := rfl
@[simp] theorem State.runSeq_tru (s : State) (x : Seq) :
    (s.runSeq x).tru = s.tru := rfl
@[simp] theorem State.runSeq_dls (s : State) (x : Seq) :
    (s.runSeq x).dls = s.dls := rfl
@[simp] theorem State.runSeq_exc (s : State) (x : Seq) :
    (s.runSeq x).exc = s.exc := rfl
@[simp] theorem State.runSeq_ch (s : State) (x : Seq) :
    (s.runSeq x).ch = s.ch := rfl
@[simp] theorem State.runSeq_pending (s : State) (x : Seq) :
    (s.runSeq x).pending = s.pending := rfl
@[simp] theorem State.runSeq_counted (s : State) (x : Seq) :
    (s.runSeq x).counted = s.counted := rfl
@[simp] theorem State.runSeq_draws (s : State) (x : Seq) :
    (s.runSeq x).draws = s.draws := rfl

@[simp] theorem State.takeEnd_pins (s : State) (kind : SeqKind) :
    (s.takeEnd kind).pins = s.pins := rfl
@[simp] theorem State.takeEnd_crw (s : State) (kind : SeqKind) :
    (s.takeEnd kind).crw = s.crw := rfl
@[simp] theorem State.takeEnd_mod (s : State) (kind : SeqKind) :
    (s.takeEnd kind).mod = s.mod := rfl
@[simp] theorem State.takeEnd_conv (s : State) (kind : SeqKind) :
    (s.takeEnd kind).conv = s.conv := rfl
@[simp] theorem State.takeEnd_link (s : State) (kind : SeqKind) :
    (s.takeEnd kind).link = s.link := rfl
@[simp] theorem State.takeEnd_lpe (s : State) (kind : SeqKind) :
    (s.takeEnd kind).lpe = s.lpe := rfl
@[simp] theorem State.takeEnd_chc (s : State) (kind : SeqKind) :
    (s.takeEnd kind).chc = s.chc := rfl
@[simp] theorem State.takeEnd_tru (s : State) (kind : SeqKind) :
    (s.takeEnd kind).tru = s.tru := rfl
@[simp] theorem State.takeEnd_dls (s : State) (kind : SeqKind) :
    (s.takeEnd kind).dls = s.dls := rfl
@[simp] theorem State.takeEnd_exc (s : State) (kind : SeqKind) :
    (s.takeEnd kind).exc = s.exc := rfl
@[simp] theorem State.takeEnd_ch (s : State) (kind : SeqKind) :
    (s.takeEnd kind).ch = s.ch := rfl
@[simp] theorem State.takeEnd_pending (s : State) (kind : SeqKind) :
    (s.takeEnd kind).pending = s.pending := rfl
@[simp] theorem State.takeEnd_counted (s : State) (kind : SeqKind) :
    (s.takeEnd kind).counted = s.counted := rfl
@[simp] theorem State.takeEnd_draws (s : State) (kind : SeqKind) :
    (s.takeEnd kind).draws = s.draws := rfl
@[simp] theorem State.takeEnd_mpt_seq (s : State) (kind : SeqKind) :
    (s.takeEnd kind).mpt.seq = s.mpt.seq := rfl

@[simp] theorem State.countSheet_pins (s : State) (f : SheetCounters → SheetCounters) :
    (s.countSheet f).pins = s.pins := rfl
@[simp] theorem State.countSheet_crw (s : State) (f : SheetCounters → SheetCounters) :
    (s.countSheet f).crw = s.crw := rfl
@[simp] theorem State.countSheet_mod (s : State) (f : SheetCounters → SheetCounters) :
    (s.countSheet f).mod = s.mod := rfl
@[simp] theorem State.countSheet_conv (s : State) (f : SheetCounters → SheetCounters) :
    (s.countSheet f).conv = s.conv := rfl
@[simp] theorem State.countSheet_link (s : State) (f : SheetCounters → SheetCounters) :
    (s.countSheet f).link = s.link := rfl
@[simp] theorem State.countSheet_lpe (s : State) (f : SheetCounters → SheetCounters) :
    (s.countSheet f).lpe = s.lpe := rfl
@[simp] theorem State.countSheet_chc (s : State) (f : SheetCounters → SheetCounters) :
    (s.countSheet f).chc = s.chc := rfl
@[simp] theorem State.countSheet_tru (s : State) (f : SheetCounters → SheetCounters) :
    (s.countSheet f).tru = s.tru := rfl
@[simp] theorem State.countSheet_dls (s : State) (f : SheetCounters → SheetCounters) :
    (s.countSheet f).dls = s.dls := rfl
@[simp] theorem State.countSheet_mpt (s : State) (f : SheetCounters → SheetCounters) :
    (s.countSheet f).mpt = s.mpt := rfl
@[simp] theorem State.countSheet_ch (s : State) (f : SheetCounters → SheetCounters) :
    (s.countSheet f).ch = s.ch := rfl
@[simp] theorem State.countSheet_pending (s : State) (f : SheetCounters → SheetCounters) :
    (s.countSheet f).pending = s.pending := rfl
@[simp] theorem State.countSheet_counted (s : State) (f : SheetCounters → SheetCounters) :
    (s.countSheet f).counted = s.counted := rfl
@[simp] theorem State.countSheet_draws (s : State) (f : SheetCounters → SheetCounters) :
    (s.countSheet f).draws = s.draws := rfl
@[simp] theorem State.countSheet_exc_state (s : State) (f : SheetCounters → SheetCounters) :
    (s.countSheet f).exc.state = s.exc.state := rfl
@[simp] theorem State.countSheet_exc_slots (s : State) (f : SheetCounters → SheetCounters) :
    (s.countSheet f).exc.slots = s.exc.slots := rfl
@[simp] theorem State.countSheet_exc_walk (s : State) (f : SheetCounters → SheetCounters) :
    (s.countSheet f).exc.walk = s.exc.walk := rfl

@[simp] theorem State.beginLife_pins (s : State) (c : Chan) (l : Life) :
    (s.beginLife c l).pins = s.pins := rfl
@[simp] theorem State.beginLife_crw (s : State) (c : Chan) (l : Life) :
    (s.beginLife c l).crw = s.crw := rfl
@[simp] theorem State.beginLife_mod (s : State) (c : Chan) (l : Life) :
    (s.beginLife c l).mod = s.mod := rfl
@[simp] theorem State.beginLife_conv (s : State) (c : Chan) (l : Life) :
    (s.beginLife c l).conv = s.conv := rfl
@[simp] theorem State.beginLife_link (s : State) (c : Chan) (l : Life) :
    (s.beginLife c l).link = s.link := rfl
@[simp] theorem State.beginLife_lpe (s : State) (c : Chan) (l : Life) :
    (s.beginLife c l).lpe = s.lpe := rfl
@[simp] theorem State.beginLife_chc (s : State) (c : Chan) (l : Life) :
    (s.beginLife c l).chc = s.chc := rfl
@[simp] theorem State.beginLife_tru (s : State) (c : Chan) (l : Life) :
    (s.beginLife c l).tru = s.tru := rfl
@[simp] theorem State.beginLife_dls (s : State) (c : Chan) (l : Life) :
    (s.beginLife c l).dls = s.dls := rfl
@[simp] theorem State.beginLife_exc (s : State) (c : Chan) (l : Life) :
    (s.beginLife c l).exc = s.exc := rfl
@[simp] theorem State.beginLife_mpt (s : State) (c : Chan) (l : Life) :
    (s.beginLife c l).mpt = s.mpt := rfl
@[simp] theorem State.beginLife_pending (s : State) (c : Chan) (l : Life) :
    (s.beginLife c l).pending = s.pending := rfl
@[simp] theorem State.beginLife_counted (s : State) (c : Chan) (l : Life) :
    (s.beginLife c l).counted = s.counted := rfl
@[simp] theorem State.beginLife_draws (s : State) (c : Chan) (l : Life) :
    (s.beginLife c l).draws = s.draws := rfl

@[simp] theorem State.enterLocking_pins (s : State) : s.enterLocking.pins = s.pins := rfl
@[simp] theorem State.enterLocking_mod (s : State) : s.enterLocking.mod = s.mod := rfl
@[simp] theorem State.enterLocking_conv (s : State) : s.enterLocking.conv = s.conv := rfl
@[simp] theorem State.enterLocking_link (s : State) : s.enterLocking.link = s.link := rfl
@[simp] theorem State.enterLocking_lpe (s : State) : s.enterLocking.lpe = s.lpe := rfl
@[simp] theorem State.enterLocking_chc (s : State) : s.enterLocking.chc = s.chc := rfl
@[simp] theorem State.enterLocking_tru (s : State) : s.enterLocking.tru = s.tru := rfl
@[simp] theorem State.enterLocking_dls (s : State) : s.enterLocking.dls = s.dls := rfl
@[simp] theorem State.enterLocking_exc (s : State) : s.enterLocking.exc = s.exc := rfl
@[simp] theorem State.enterLocking_mpt (s : State) : s.enterLocking.mpt = s.mpt := rfl
@[simp] theorem State.enterLocking_ch (s : State) : s.enterLocking.ch = s.ch := rfl
@[simp] theorem State.enterLocking_pending (s : State) : s.enterLocking.pending = s.pending := rfl
@[simp] theorem State.enterLocking_counted (s : State) : s.enterLocking.counted = s.counted := rfl
@[simp] theorem State.enterLocking_draws (s : State) : s.enterLocking.draws = s.draws := rfl
@[simp] theorem State.enterLocking_crw_held (s : State) : s.enterLocking.crw.held = s.crw.held := rfl
@[simp] theorem State.enterLocking_crw_softHold (s : State) : s.enterLocking.crw.softHold = s.crw.softHold := rfl
@[simp] theorem State.enterLocking_crw_straps (s : State) : s.enterLocking.crw.straps = s.crw.straps := rfl
@[simp] theorem State.enterLocking_crw_base (s : State) : s.enterLocking.crw.base = s.crw.base := rfl

@[simp] theorem State.enterChecking_pins (s : State) : s.enterChecking.pins = s.pins := rfl
@[simp] theorem State.enterChecking_mod (s : State) : s.enterChecking.mod = s.mod := rfl
@[simp] theorem State.enterChecking_conv (s : State) : s.enterChecking.conv = s.conv := rfl
@[simp] theorem State.enterChecking_link (s : State) : s.enterChecking.link = s.link := rfl
@[simp] theorem State.enterChecking_lpe (s : State) : s.enterChecking.lpe = s.lpe := rfl
@[simp] theorem State.enterChecking_chc (s : State) : s.enterChecking.chc = s.chc := rfl
@[simp] theorem State.enterChecking_tru (s : State) : s.enterChecking.tru = s.tru := rfl
@[simp] theorem State.enterChecking_dls (s : State) : s.enterChecking.dls = s.dls := rfl
@[simp] theorem State.enterChecking_exc (s : State) : s.enterChecking.exc = s.exc := rfl
@[simp] theorem State.enterChecking_mpt (s : State) : s.enterChecking.mpt = s.mpt := rfl
@[simp] theorem State.enterChecking_ch (s : State) : s.enterChecking.ch = s.ch := rfl
@[simp] theorem State.enterChecking_pending (s : State) : s.enterChecking.pending = s.pending := rfl
@[simp] theorem State.enterChecking_counted (s : State) : s.enterChecking.counted = s.counted := rfl
@[simp] theorem State.enterChecking_draws (s : State) : s.enterChecking.draws = s.draws := rfl
@[simp] theorem State.enterChecking_crw_held (s : State) : s.enterChecking.crw.held = s.crw.held := rfl
@[simp] theorem State.enterChecking_crw_softHold (s : State) : s.enterChecking.crw.softHold = s.crw.softHold := rfl
@[simp] theorem State.enterChecking_crw_straps (s : State) : s.enterChecking.crw.straps = s.crw.straps := rfl
@[simp] theorem State.enterChecking_crw_base (s : State) : s.enterChecking.crw.base = s.crw.base := rfl

@[simp] theorem State.beginWindow_pins (s : State) : s.beginWindow.pins = s.pins := rfl
@[simp] theorem State.beginWindow_mod (s : State) : s.beginWindow.mod = s.mod := rfl
@[simp] theorem State.beginWindow_conv (s : State) : s.beginWindow.conv = s.conv := rfl
@[simp] theorem State.beginWindow_link (s : State) : s.beginWindow.link = s.link := rfl
@[simp] theorem State.beginWindow_lpe (s : State) : s.beginWindow.lpe = s.lpe := rfl
@[simp] theorem State.beginWindow_chc (s : State) : s.beginWindow.chc = s.chc := rfl
@[simp] theorem State.beginWindow_tru (s : State) : s.beginWindow.tru = s.tru := rfl
@[simp] theorem State.beginWindow_dls (s : State) : s.beginWindow.dls = s.dls := rfl
@[simp] theorem State.beginWindow_exc (s : State) : s.beginWindow.exc = s.exc := rfl
@[simp] theorem State.beginWindow_mpt (s : State) : s.beginWindow.mpt = s.mpt := rfl
@[simp] theorem State.beginWindow_ch (s : State) : s.beginWindow.ch = s.ch := rfl
@[simp] theorem State.beginWindow_pending (s : State) : s.beginWindow.pending = s.pending := rfl
@[simp] theorem State.beginWindow_counted (s : State) : s.beginWindow.counted = s.counted := rfl
@[simp] theorem State.beginWindow_draws (s : State) : s.beginWindow.draws = s.draws := rfl
@[simp] theorem State.beginWindow_crw_held (s : State) : s.beginWindow.crw.held = s.crw.held := rfl
@[simp] theorem State.beginWindow_crw_softHold (s : State) : s.beginWindow.crw.softHold = s.crw.softHold := rfl
@[simp] theorem State.beginWindow_crw_clock (s : State) : s.beginWindow.crw.clock = s.crw.clock := rfl
@[simp] theorem State.beginWindow_crw_straps (s : State) : s.beginWindow.crw.straps = s.crw.straps := rfl
@[simp] theorem State.beginWindow_crw_base (s : State) : s.beginWindow.crw.base = s.crw.base := rfl

@[simp] theorem State.takeGo_pins (s : State) : s.takeGo.pins = s.pins := rfl
@[simp] theorem State.takeGo_crw (s : State) : s.takeGo.crw = s.crw := rfl
@[simp] theorem State.takeGo_mod (s : State) : s.takeGo.mod = s.mod := rfl
@[simp] theorem State.takeGo_conv (s : State) : s.takeGo.conv = s.conv := rfl
@[simp] theorem State.takeGo_link (s : State) : s.takeGo.link = s.link := rfl
@[simp] theorem State.takeGo_lpe (s : State) : s.takeGo.lpe = s.lpe := rfl
@[simp] theorem State.takeGo_chc (s : State) : s.takeGo.chc = s.chc := rfl
@[simp] theorem State.takeGo_tru (s : State) : s.takeGo.tru = s.tru := rfl
@[simp] theorem State.takeGo_dls (s : State) : s.takeGo.dls = s.dls := rfl
@[simp] theorem State.takeGo_ch (s : State) : s.takeGo.ch = s.ch := rfl
@[simp] theorem State.takeGo_pending (s : State) : s.takeGo.pending = s.pending := rfl
@[simp] theorem State.takeGo_counted (s : State) : s.takeGo.counted = s.counted := rfl
@[simp] theorem State.takeGo_draws (s : State) : s.takeGo.draws = s.draws := rfl
@[simp] theorem State.takeGo_exc_slots (s : State) : s.takeGo.exc.slots = s.exc.slots := rfl
@[simp] theorem State.takeGo_exc_walk (s : State) : s.takeGo.exc.walk = s.exc.walk := rfl
@[simp] theorem State.takeGo_mpt_seq (s : State) : s.takeGo.mpt.seq = s.mpt.seq := rfl

@[simp] theorem State.modTru_pins (s : State) (c : Chan) (f : TruCh → TruCh) :
    (s.modTru c f).pins = s.pins := rfl
@[simp] theorem State.modTru_crw (s : State) (c : Chan) (f : TruCh → TruCh) :
    (s.modTru c f).crw = s.crw := rfl
@[simp] theorem State.modTru_mod (s : State) (c : Chan) (f : TruCh → TruCh) :
    (s.modTru c f).mod = s.mod := rfl
@[simp] theorem State.modTru_conv (s : State) (c : Chan) (f : TruCh → TruCh) :
    (s.modTru c f).conv = s.conv := rfl
@[simp] theorem State.modTru_link (s : State) (c : Chan) (f : TruCh → TruCh) :
    (s.modTru c f).link = s.link := rfl
@[simp] theorem State.modTru_lpe (s : State) (c : Chan) (f : TruCh → TruCh) :
    (s.modTru c f).lpe = s.lpe := rfl
@[simp] theorem State.modTru_chc (s : State) (c : Chan) (f : TruCh → TruCh) :
    (s.modTru c f).chc = s.chc := rfl
@[simp] theorem State.modTru_tru (s : State) (c : Chan) (f : TruCh → TruCh) :
    (s.modTru c f).tru = s.tru := rfl
@[simp] theorem State.modTru_dls (s : State) (c : Chan) (f : TruCh → TruCh) :
    (s.modTru c f).dls = s.dls := rfl
@[simp] theorem State.modTru_exc (s : State) (c : Chan) (f : TruCh → TruCh) :
    (s.modTru c f).exc = s.exc := rfl
@[simp] theorem State.modTru_mpt (s : State) (c : Chan) (f : TruCh → TruCh) :
    (s.modTru c f).mpt = s.mpt := rfl
@[simp] theorem State.modTru_pending (s : State) (c : Chan) (f : TruCh → TruCh) :
    (s.modTru c f).pending = s.pending := rfl
@[simp] theorem State.modTru_counted (s : State) (c : Chan) (f : TruCh → TruCh) :
    (s.modTru c f).counted = s.counted := rfl
@[simp] theorem State.modTru_draws (s : State) (c : Chan) (f : TruCh → TruCh) :
    (s.modTru c f).draws = s.draws := rfl

@[simp] theorem State.setXt_pins (s : State) (i : Quad) (x : Xt) :
    (s.setXt i x).pins = s.pins := rfl
@[simp] theorem State.setXt_crw (s : State) (i : Quad) (x : Xt) :
    (s.setXt i x).crw = s.crw := rfl
@[simp] theorem State.setXt_mod (s : State) (i : Quad) (x : Xt) :
    (s.setXt i x).mod = s.mod := rfl
@[simp] theorem State.setXt_conv (s : State) (i : Quad) (x : Xt) :
    (s.setXt i x).conv = s.conv := rfl
@[simp] theorem State.setXt_link (s : State) (i : Quad) (x : Xt) :
    (s.setXt i x).link = s.link := rfl
@[simp] theorem State.setXt_lpe (s : State) (i : Quad) (x : Xt) :
    (s.setXt i x).lpe = s.lpe := rfl
@[simp] theorem State.setXt_chc (s : State) (i : Quad) (x : Xt) :
    (s.setXt i x).chc = s.chc := rfl
@[simp] theorem State.setXt_dls (s : State) (i : Quad) (x : Xt) :
    (s.setXt i x).dls = s.dls := rfl
@[simp] theorem State.setXt_exc (s : State) (i : Quad) (x : Xt) :
    (s.setXt i x).exc = s.exc := rfl
@[simp] theorem State.setXt_mpt (s : State) (i : Quad) (x : Xt) :
    (s.setXt i x).mpt = s.mpt := rfl
@[simp] theorem State.setXt_ch (s : State) (i : Quad) (x : Xt) :
    (s.setXt i x).ch = s.ch := rfl
@[simp] theorem State.setXt_pending (s : State) (i : Quad) (x : Xt) :
    (s.setXt i x).pending = s.pending := rfl
@[simp] theorem State.setXt_counted (s : State) (i : Quad) (x : Xt) :
    (s.setXt i x).counted = s.counted := rfl
@[simp] theorem State.setXt_draws (s : State) (i : Quad) (x : Xt) :
    (s.setXt i x).draws = s.draws := rfl
@[simp] theorem State.setXt_tru_dumps (s : State) (i : Quad) (x : Xt) :
    (s.setXt i x).tru.dumps = s.tru.dumps := rfl

@[simp] theorem State.modMpt_pins (s : State) (f : Mpt → Mpt) :
    (s.modMpt f).pins = s.pins := rfl
@[simp] theorem State.modMpt_crw (s : State) (f : Mpt → Mpt) :
    (s.modMpt f).crw = s.crw := rfl
@[simp] theorem State.modMpt_mod (s : State) (f : Mpt → Mpt) :
    (s.modMpt f).mod = s.mod := rfl
@[simp] theorem State.modMpt_conv (s : State) (f : Mpt → Mpt) :
    (s.modMpt f).conv = s.conv := rfl
@[simp] theorem State.modMpt_link (s : State) (f : Mpt → Mpt) :
    (s.modMpt f).link = s.link := rfl
@[simp] theorem State.modMpt_lpe (s : State) (f : Mpt → Mpt) :
    (s.modMpt f).lpe = s.lpe := rfl
@[simp] theorem State.modMpt_chc (s : State) (f : Mpt → Mpt) :
    (s.modMpt f).chc = s.chc := rfl
@[simp] theorem State.modMpt_tru (s : State) (f : Mpt → Mpt) :
    (s.modMpt f).tru = s.tru := rfl
@[simp] theorem State.modMpt_dls (s : State) (f : Mpt → Mpt) :
    (s.modMpt f).dls = s.dls := rfl
@[simp] theorem State.modMpt_exc (s : State) (f : Mpt → Mpt) :
    (s.modMpt f).exc = s.exc := rfl
@[simp] theorem State.modMpt_ch (s : State) (f : Mpt → Mpt) :
    (s.modMpt f).ch = s.ch := rfl
@[simp] theorem State.modMpt_pending (s : State) (f : Mpt → Mpt) :
    (s.modMpt f).pending = s.pending := rfl
@[simp] theorem State.modMpt_counted (s : State) (f : Mpt → Mpt) :
    (s.modMpt f).counted = s.counted := rfl
@[simp] theorem State.modMpt_draws (s : State) (f : Mpt → Mpt) :
    (s.modMpt f).draws = s.draws := rfl

@[simp] theorem State.setWalk_pins (s : State) (w : Option Walk) :
    (s.setWalk w).pins = s.pins := rfl
@[simp] theorem State.setWalk_crw (s : State) (w : Option Walk) :
    (s.setWalk w).crw = s.crw := rfl
@[simp] theorem State.setWalk_mod (s : State) (w : Option Walk) :
    (s.setWalk w).mod = s.mod := rfl
@[simp] theorem State.setWalk_conv (s : State) (w : Option Walk) :
    (s.setWalk w).conv = s.conv := rfl
@[simp] theorem State.setWalk_link (s : State) (w : Option Walk) :
    (s.setWalk w).link = s.link := rfl
@[simp] theorem State.setWalk_lpe (s : State) (w : Option Walk) :
    (s.setWalk w).lpe = s.lpe := rfl
@[simp] theorem State.setWalk_chc (s : State) (w : Option Walk) :
    (s.setWalk w).chc = s.chc := rfl
@[simp] theorem State.setWalk_tru (s : State) (w : Option Walk) :
    (s.setWalk w).tru = s.tru := rfl
@[simp] theorem State.setWalk_dls (s : State) (w : Option Walk) :
    (s.setWalk w).dls = s.dls := rfl
@[simp] theorem State.setWalk_mpt (s : State) (w : Option Walk) :
    (s.setWalk w).mpt = s.mpt := rfl
@[simp] theorem State.setWalk_ch (s : State) (w : Option Walk) :
    (s.setWalk w).ch = s.ch := rfl
@[simp] theorem State.setWalk_pending (s : State) (w : Option Walk) :
    (s.setWalk w).pending = s.pending := rfl
@[simp] theorem State.setWalk_counted (s : State) (w : Option Walk) :
    (s.setWalk w).counted = s.counted := rfl
@[simp] theorem State.setWalk_draws (s : State) (w : Option Walk) :
    (s.setWalk w).draws = s.draws := rfl
@[simp] theorem State.setWalk_exc_state (s : State) (w : Option Walk) :
    (s.setWalk w).exc.state = s.exc.state := rfl
@[simp] theorem State.setWalk_exc_slots (s : State) (w : Option Walk) :
    (s.setWalk w).exc.slots = s.exc.slots := rfl

@[simp] theorem State.enqueue_pins (s : State) (i : Instr) :
    (s.enqueue i).pins = s.pins := rfl
@[simp] theorem State.enqueue_crw (s : State) (i : Instr) :
    (s.enqueue i).crw = s.crw := rfl
@[simp] theorem State.enqueue_mod (s : State) (i : Instr) :
    (s.enqueue i).mod = s.mod := rfl
@[simp] theorem State.enqueue_conv (s : State) (i : Instr) :
    (s.enqueue i).conv = s.conv := rfl
@[simp] theorem State.enqueue_link (s : State) (i : Instr) :
    (s.enqueue i).link = s.link := rfl
@[simp] theorem State.enqueue_lpe (s : State) (i : Instr) :
    (s.enqueue i).lpe = s.lpe := rfl
@[simp] theorem State.enqueue_chc (s : State) (i : Instr) :
    (s.enqueue i).chc = s.chc := rfl
@[simp] theorem State.enqueue_tru (s : State) (i : Instr) :
    (s.enqueue i).tru = s.tru := rfl
@[simp] theorem State.enqueue_dls (s : State) (i : Instr) :
    (s.enqueue i).dls = s.dls := rfl
@[simp] theorem State.enqueue_exc (s : State) (i : Instr) :
    (s.enqueue i).exc = s.exc := rfl
@[simp] theorem State.enqueue_mpt (s : State) (i : Instr) :
    (s.enqueue i).mpt = s.mpt := rfl
@[simp] theorem State.enqueue_ch (s : State) (i : Instr) :
    (s.enqueue i).ch = s.ch := rfl
@[simp] theorem State.enqueue_counted (s : State) (i : Instr) :
    (s.enqueue i).counted = s.counted := rfl

/-! ### Channels -/

@[simp] theorem State.setChan_ch (s : State) (c : Chan) (x : Channel) : (s.setChan c x).ch = s.ch.set c x := rfl

@[simp] theorem State.chan_setChan_self (s : State) (c : Chan) (x : Channel) : (s.setChan c x).chan c = x :=
  Bank8.get_set_self s.ch c x

theorem State.chan_setChan_ne (s : State) {c d : Chan} (x : Channel) (h : d ≠ c) :
    (s.setChan c x).chan d = s.chan d := Bank8.get_set_ne s.ch x h

@[simp] theorem State.chan_modChan_self (s : State) (c : Chan) (f : Channel → Channel) :
    (s.modChan c f).chan c = f (s.chan c) := s.chan_setChan_self c _

theorem State.chan_modChan_ne (s : State) {c d : Chan} (f : Channel → Channel) (h : d ≠ c) :
    (s.modChan c f).chan d = s.chan d := s.chan_setChan_ne _ h

theorem State.chan_modChan (s : State) (c d : Chan) (f : Channel → Channel) :
    (s.modChan c f).chan d = if d = c then f (s.chan d) else s.chan d := by
  by_cases h : d = c
  · subst h; simp
  · simp [h, s.chan_modChan_ne f h]

/-- A change of a channel that leaves some part of every channel as it is leaves that part of all channels. -/
theorem State.chan_modChan_of_eq {α : Type} (g : Channel → α) (s : State) (c d : Chan) (f : Channel → Channel)
    (h : g (f (s.chan c)) = g (s.chan c)) : g ((s.modChan c f).chan d) = g (s.chan d) := by
  by_cases e : d = c
  · subst e; simpa using h
  · rw [s.chan_modChan_ne f e]

end Sys2Proof.Machine
end

