-- ==== Sys2Proof/Laws/Frames.lean ====
section
/-! SUPPORT. What each shared operation leaves as it is: one lemma an operation, whose parts are rewriting rules. -/

namespace Sys2Proof.Machine

/-! ### A fold of an operation that leaves a part as it is -/

theorem foldl_keeps {α β : Type} (g : State → α) (f : State → β → State) (h : ∀ s b, g (f s b) = g s) (l : List β)
    (s : State) : g (l.foldl f s) = g s := by
  induction l generalizing s with
  | nil => rfl
  | cons x xs ih => rw [List.foldl_cons, ih, h]

@[simp] theorem foldl_pins {β : Type} (f : State → β → State) (h : ∀ s b, (f s b).pins = s.pins)
    (l : List β) (s : State) : (l.foldl f s).pins = s.pins :=
  foldl_keeps State.pins f h l s

@[simp] theorem foldl_crw {β : Type} (f : State → β → State) (h : ∀ s b, (f s b).crw = s.crw)
    (l : List β) (s : State) : (l.foldl f s).crw = s.crw :=
  foldl_keeps State.crw f h l s

@[simp] theorem foldl_mod {β : Type} (f : State → β → State) (h : ∀ s b, (f s b).mod = s.mod)
    (l : List β) (s : State) : (l.foldl f s).mod = s.mod :=
  foldl_keeps State.mod f h l s

@[simp] theorem foldl_conv {β : Type} (f : State → β → State) (h : ∀ s b, (f s b).conv = s.conv)
    (l : List β) (s : State) : (l.foldl f s).conv = s.conv :=
  foldl_keeps State.conv f h l s

@[simp] theorem foldl_link {β : Type} (f : State → β → State) (h : ∀ s b, (f s b).link = s.link)
    (l : List β) (s : State) : (l.foldl f s).link = s.link :=
  foldl_keeps State.link f h l s

@[simp] theorem foldl_lpe {β : Type} (f : State → β → State) (h : ∀ s b, (f s b).lpe = s.lpe)
    (l : List β) (s : State) : (l.foldl f s).lpe = s.lpe :=
  foldl_keeps State.lpe f h l s

@[simp] theorem foldl_chc {β : Type} (f : State → β → State) (h : ∀ s b, (f s b).chc = s.chc)
    (l : List β) (s : State) : (l.foldl f s).chc = s.chc :=
  foldl_keeps State.chc f h l s

@[simp] theorem foldl_tru {β : Type} (f : State → β → State) (h : ∀ s b, (f s b).tru = s.tru)
    (l : List β) (s : State) : (l.foldl f s).tru = s.tru :=
  foldl_keeps State.tru f h l s

@[simp] theorem foldl_dls {β : Type} (f : State → β → State) (h : ∀ s b, (f s b).dls = s.dls)
    (l : List β) (s : State) : (l.foldl f s).dls = s.dls :=
  foldl_keeps State.dls f h l s

@[simp] theorem foldl_exc {β : Type} (f : State → β → State) (h : ∀ s b, (f s b).exc = s.exc)
    (l : List β) (s : State) : (l.foldl f s).exc = s.exc :=
  foldl_keeps State.exc f h l s

@[simp] theorem foldl_mpt {β : Type} (f : State → β → State) (h : ∀ s b, (f s b).mpt = s.mpt)
    (l : List β) (s : State) : (l.foldl f s).mpt = s.mpt :=
  foldl_keeps State.mpt f h l s

@[simp] theorem foldl_ch {β : Type} (f : State → β → State) (h : ∀ s b, (f s b).ch = s.ch)
    (l : List β) (s : State) : (l.foldl f s).ch = s.ch :=
  foldl_keeps State.ch f h l s

@[simp] theorem foldl_pending {β : Type} (f : State → β → State) (h : ∀ s b, (f s b).pending = s.pending)
    (l : List β) (s : State) : (l.foldl f s).pending = s.pending :=
  foldl_keeps State.pending f h l s

@[simp] theorem foldl_counted {β : Type} (f : State → β → State) (h : ∀ s b, (f s b).counted = s.counted)
    (l : List β) (s : State) : (l.foldl f s).counted = s.counted :=
  foldl_keeps State.counted f h l s

@[simp] theorem foldl_draws {β : Type} (f : State → β → State) (h : ∀ s b, (f s b).draws = s.draws)
    (l : List β) (s : State) : (l.foldl f s).draws = s.draws :=
  foldl_keeps State.draws f h l s

@[simp] theorem foldl_chc_pairs {β : Type} (f : State → β → State) (h : ∀ s b, (f s b).chc.pairs = s.chc.pairs)
    (l : List β) (s : State) : (l.foldl f s).chc.pairs = s.chc.pairs :=
  foldl_keeps (fun t : State => t.chc.pairs) f h l s

@[simp] theorem foldl_crw_base {β : Type} (f : State → β → State) (h : ∀ s b, (f s b).crw.base = s.crw.base)
    (l : List β) (s : State) : (l.foldl f s).crw.base = s.crw.base :=
  foldl_keeps (fun t : State => t.crw.base) f h l s

@[simp] theorem foldl_crw_clock {β : Type} (f : State → β → State) (h : ∀ s b, (f s b).crw.clock = s.crw.clock)
    (l : List β) (s : State) : (l.foldl f s).crw.clock = s.crw.clock :=
  foldl_keeps (fun t : State => t.crw.clock) f h l s

@[simp] theorem foldl_crw_held {β : Type} (f : State → β → State) (h : ∀ s b, (f s b).crw.held = s.crw.held)
    (l : List β) (s : State) : (l.foldl f s).crw.held = s.crw.held :=
  foldl_keeps (fun t : State => t.crw.held) f h l s

@[simp] theorem foldl_crw_softHold {β : Type} (f : State → β → State) (h : ∀ s b, (f s b).crw.softHold = s.crw.softHold)
    (l : List β) (s : State) : (l.foldl f s).crw.softHold = s.crw.softHold :=
  foldl_keeps (fun t : State => t.crw.softHold) f h l s

@[simp] theorem foldl_crw_straps {β : Type} (f : State → β → State) (h : ∀ s b, (f s b).crw.straps = s.crw.straps)
    (l : List β) (s : State) : (l.foldl f s).crw.straps = s.crw.straps :=
  foldl_keeps (fun t : State => t.crw.straps) f h l s

@[simp] theorem foldl_exc_slots {β : Type} (f : State → β → State) (h : ∀ s b, (f s b).exc.slots = s.exc.slots)
    (l : List β) (s : State) : (l.foldl f s).exc.slots = s.exc.slots :=
  foldl_keeps (fun t : State => t.exc.slots) f h l s

@[simp] theorem foldl_exc_state {β : Type} (f : State → β → State) (h : ∀ s b, (f s b).exc.state = s.exc.state)
    (l : List β) (s : State) : (l.foldl f s).exc.state = s.exc.state :=
  foldl_keeps (fun t : State => t.exc.state) f h l s

@[simp] theorem foldl_exc_walk {β : Type} (f : State → β → State) (h : ∀ s b, (f s b).exc.walk = s.exc.walk)
    (l : List β) (s : State) : (l.foldl f s).exc.walk = s.exc.walk :=
  foldl_keeps (fun t : State => t.exc.walk) f h l s

@[simp] theorem foldl_link_udc {β : Type} (f : State → β → State) (h : ∀ s b, (f s b).link.udc = s.link.udc)
    (l : List β) (s : State) : (l.foldl f s).link.udc = s.link.udc :=
  foldl_keeps (fun t : State => t.link.udc) f h l s

@[simp] theorem foldl_lpe_engine {β : Type} (f : State → β → State) (h : ∀ s b, (f s b).lpe.engine = s.lpe.engine)
    (l : List β) (s : State) : (l.foldl f s).lpe.engine = s.lpe.engine :=
  foldl_keeps (fun t : State => t.lpe.engine) f h l s

@[simp] theorem foldl_lpe_ready {β : Type} (f : State → β → State) (h : ∀ s b, (f s b).lpe.ready = s.lpe.ready)
    (l : List β) (s : State) : (l.foldl f s).lpe.ready = s.lpe.ready :=
  foldl_keeps (fun t : State => t.lpe.ready) f h l s

@[simp] theorem foldl_mod_p {β : Type} (f : State → β → State) (h : ∀ s b, (f s b).mod.p = s.mod.p)
    (l : List β) (s : State) : (l.foldl f s).mod.p = s.mod.p :=
  foldl_keeps (fun t : State => t.mod.p) f h l s

@[simp] theorem foldl_mod_running {β : Type} (f : State → β → State) (h : ∀ s b, (f s b).mod.running = s.mod.running)
    (l : List β) (s : State) : (l.foldl f s).mod.running = s.mod.running :=
  foldl_keeps (fun t : State => t.mod.running) f h l s

@[simp] theorem foldl_mod_s {β : Type} (f : State → β → State) (h : ∀ s b, (f s b).mod.s = s.mod.s)
    (l : List β) (s : State) : (l.foldl f s).mod.s = s.mod.s :=
  foldl_keeps (fun t : State => t.mod.s) f h l s

@[simp] theorem foldl_mod_tauRef {β : Type} (f : State → β → State) (h : ∀ s b, (f s b).mod.tauRef = s.mod.tauRef)
    (l : List β) (s : State) : (l.foldl f s).mod.tauRef = s.mod.tauRef :=
  foldl_keeps (fun t : State => t.mod.tauRef) f h l s

@[simp] theorem foldl_mpt_seq {β : Type} (f : State → β → State) (h : ∀ s b, (f s b).mpt.seq = s.mpt.seq)
    (l : List β) (s : State) : (l.foldl f s).mpt.seq = s.mpt.seq :=
  foldl_keeps (fun t : State => t.mpt.seq) f h l s

@[simp] theorem foldl_tru_dumps {β : Type} (f : State → β → State) (h : ∀ s b, (f s b).tru.dumps = s.tru.dumps)
    (l : List β) (s : State) : (l.foldl f s).tru.dumps = s.tru.dumps :=
  foldl_keeps (fun t : State => t.tru.dumps) f h l s

@[simp] theorem foldl_tru_xt {β : Type} (f : State → β → State) (h : ∀ s b, (f s b).tru.xt = s.tru.xt)
    (l : List β) (s : State) : (l.foldl f s).tru.xt = s.tru.xt :=
  foldl_keeps (fun t : State => t.tru.xt) f h l s

/-! ### The operations -/

/-! Of Machine/Flags.lean. -/

@[simp] theorem State.raiseIf_frame (s : State) (b : Bool) (n : Notice) :
    (s.raiseIf b n).pins = s.pins ∧ (s.raiseIf b n).mod = s.mod ∧ (s.raiseIf b n).conv = s.conv
      ∧ (s.raiseIf b n).link = s.link ∧ (s.raiseIf b n).lpe = s.lpe ∧ (s.raiseIf b n).chc = s.chc
      ∧ (s.raiseIf b n).tru = s.tru ∧ (s.raiseIf b n).dls = s.dls ∧ (s.raiseIf b n).exc = s.exc
      ∧ (s.raiseIf b n).mpt = s.mpt ∧ (s.raiseIf b n).ch = s.ch ∧ (s.raiseIf b n).pending = s.pending
      ∧ (s.raiseIf b n).counted = s.counted ∧ (s.raiseIf b n).draws = s.draws ∧ (s.raiseIf b n).crw.held = s.crw.held
      ∧ (s.raiseIf b n).crw.softHold = s.crw.softHold ∧ (s.raiseIf b n).crw.clock = s.crw.clock
      ∧ (s.raiseIf b n).crw.straps = s.crw.straps ∧ (s.raiseIf b n).crw.base = s.crw.base := by
  refine ⟨?_, ?_, ?_, ?_, ?_, ?_, ?_, ?_, ?_, ?_, ?_, ?_, ?_, ?_, ?_, ?_, ?_, ?_, ?_⟩ <;> (unfold State.raiseIf; (repeat' split) <;> simp)

/-! Of Machine/Gates.lean. -/

@[simp] theorem State.settleGates_frame (s : State) (c : Chan) :
    (s.settleGates c).pins = s.pins ∧ (s.settleGates c).crw = s.crw ∧ (s.settleGates c).mod = s.mod
      ∧ (s.settleGates c).conv = s.conv ∧ (s.settleGates c).link = s.link ∧ (s.settleGates c).lpe = s.lpe
      ∧ (s.settleGates c).chc = s.chc ∧ (s.settleGates c).tru = s.tru ∧ (s.settleGates c).dls = s.dls
      ∧ (s.settleGates c).exc = s.exc ∧ (s.settleGates c).mpt = s.mpt ∧ (s.settleGates c).pending = s.pending
      ∧ (s.settleGates c).counted = s.counted ∧ (s.settleGates c).draws = s.draws := by
  refine ⟨?_, ?_, ?_, ?_, ?_, ?_, ?_, ?_, ?_, ?_, ?_, ?_, ?_, ?_⟩ <;> (unfold State.settleGates; simp)

/-! Of Machine/Port.lean. -/

@[simp] theorem State.markAnswer_frame (s : State) (k : Claimed) :
    (s.markAnswer k).pins = s.pins ∧ (s.markAnswer k).crw = s.crw ∧ (s.markAnswer k).mod = s.mod
      ∧ (s.markAnswer k).conv = s.conv ∧ (s.markAnswer k).link = s.link ∧ (s.markAnswer k).lpe = s.lpe
      ∧ (s.markAnswer k).chc = s.chc ∧ (s.markAnswer k).tru = s.tru ∧ (s.markAnswer k).dls = s.dls
      ∧ (s.markAnswer k).mpt = s.mpt ∧ (s.markAnswer k).ch = s.ch ∧ (s.markAnswer k).pending = s.pending
      ∧ (s.markAnswer k).counted = s.counted ∧ (s.markAnswer k).draws = s.draws
      ∧ (s.markAnswer k).exc.state = s.exc.state ∧ (s.markAnswer k).exc.walk = s.exc.walk
      ∧ (s.markAnswer k).exc.writeBack = s.exc.writeBack := by
  refine ⟨?_, ?_, ?_, ?_, ?_, ?_, ?_, ?_, ?_, ?_, ?_, ?_, ?_, ?_, ?_, ?_, ?_⟩ <;> (unfold State.markAnswer; (repeat' split) <;> rfl)

@[simp] theorem State.beginAnswer_frame (s : State) (k : Claimed) :
    (s.beginAnswer k).pins = s.pins ∧ (s.beginAnswer k).crw = s.crw ∧ (s.beginAnswer k).mod = s.mod
      ∧ (s.beginAnswer k).conv = s.conv ∧ (s.beginAnswer k).link = s.link ∧ (s.beginAnswer k).lpe = s.lpe
      ∧ (s.beginAnswer k).chc = s.chc ∧ (s.beginAnswer k).tru = s.tru ∧ (s.beginAnswer k).dls = s.dls
      ∧ (s.beginAnswer k).ch = s.ch ∧ (s.beginAnswer k).pending = s.pending ∧ (s.beginAnswer k).counted = s.counted
      ∧ (s.beginAnswer k).draws = s.draws ∧ (s.beginAnswer k).exc.state = s.exc.state
      ∧ (s.beginAnswer k).exc.walk = s.exc.walk := by
  refine ⟨?_, ?_, ?_, ?_, ?_, ?_, ?_, ?_, ?_, ?_, ?_, ?_, ?_, ?_, ?_⟩ <;> (unfold State.beginAnswer; (repeat' split) <;> simp)

@[simp] theorem State.beginStep_frame (s : State) (w : Walk) :
    (s.beginStep w).pins = s.pins ∧ (s.beginStep w).crw = s.crw ∧ (s.beginStep w).mod = s.mod
      ∧ (s.beginStep w).conv = s.conv ∧ (s.beginStep w).link = s.link ∧ (s.beginStep w).lpe = s.lpe
      ∧ (s.beginStep w).chc = s.chc ∧ (s.beginStep w).tru = s.tru ∧ (s.beginStep w).dls = s.dls
      ∧ (s.beginStep w).ch = s.ch ∧ (s.beginStep w).pending = s.pending ∧ (s.beginStep w).counted = s.counted
      ∧ (s.beginStep w).draws = s.draws ∧ (s.beginStep w).exc.state = s.exc.state
      ∧ (s.beginStep w).exc.walk = s.exc.walk := by
  refine ⟨?_, ?_, ?_, ?_, ?_, ?_, ?_, ?_, ?_, ?_, ?_, ?_, ?_, ?_, ?_⟩ <;> (unfold State.beginStep; (repeat' split) <;> simp)

@[simp] theorem State.beginWriteBack_frame (s : State) :
    s.beginWriteBack.pins = s.pins ∧ s.beginWriteBack.crw = s.crw ∧ s.beginWriteBack.mod = s.mod
      ∧ s.beginWriteBack.conv = s.conv ∧ s.beginWriteBack.link = s.link ∧ s.beginWriteBack.lpe = s.lpe
      ∧ s.beginWriteBack.chc = s.chc ∧ s.beginWriteBack.tru = s.tru ∧ s.beginWriteBack.dls = s.dls
      ∧ s.beginWriteBack.exc = s.exc ∧ s.beginWriteBack.ch = s.ch ∧ s.beginWriteBack.pending = s.pending
      ∧ s.beginWriteBack.counted = s.counted ∧ s.beginWriteBack.draws = s.draws := by
  refine ⟨?_, ?_, ?_, ?_, ?_, ?_, ?_, ?_, ?_, ?_, ?_, ?_, ?_, ?_⟩ <;> (unfold State.beginWriteBack; (repeat' split) <;> simp)

@[simp] theorem State.beginDump_frame (s : State) :
    s.beginDump.pins = s.pins ∧ s.beginDump.crw = s.crw ∧ s.beginDump.mod = s.mod ∧ s.beginDump.conv = s.conv
      ∧ s.beginDump.link = s.link ∧ s.beginDump.lpe = s.lpe ∧ s.beginDump.chc = s.chc ∧ s.beginDump.dls = s.dls
      ∧ s.beginDump.exc = s.exc ∧ s.beginDump.ch = s.ch ∧ s.beginDump.pending = s.pending
      ∧ s.beginDump.counted = s.counted ∧ s.beginDump.draws = s.draws ∧ s.beginDump.tru.xt = s.tru.xt := by
  refine ⟨?_, ?_, ?_, ?_, ?_, ?_, ?_, ?_, ?_, ?_, ?_, ?_, ?_, ?_⟩ <;> (unfold State.beginDump; (repeat' split) <;> simp)

@[simp] theorem State.beginCapture_frame (s : State) (ctx : Bool) :
    (s.beginCapture ctx).pins = s.pins ∧ (s.beginCapture ctx).crw = s.crw ∧ (s.beginCapture ctx).mod = s.mod
      ∧ (s.beginCapture ctx).conv = s.conv ∧ (s.beginCapture ctx).link = s.link ∧ (s.beginCapture ctx).lpe = s.lpe
      ∧ (s.beginCapture ctx).chc = s.chc ∧ (s.beginCapture ctx).tru = s.tru ∧ (s.beginCapture ctx).dls = s.dls
      ∧ (s.beginCapture ctx).exc = s.exc ∧ (s.beginCapture ctx).ch = s.ch ∧ (s.beginCapture ctx).pending = s.pending
      ∧ (s.beginCapture ctx).counted = s.counted ∧ (s.beginCapture ctx).draws = s.draws := by
  refine ⟨?_, ?_, ?_, ?_, ?_, ?_, ?_, ?_, ?_, ?_, ?_, ?_, ?_, ?_⟩ <;> (unfold State.beginCapture; dsimp only; (repeat' split) <;> simp)

@[simp] theorem State.beginNext_frame (s : State) :
    s.beginNext.pins = s.pins ∧ s.beginNext.crw = s.crw ∧ s.beginNext.mod = s.mod ∧ s.beginNext.conv = s.conv
      ∧ s.beginNext.link = s.link ∧ s.beginNext.lpe = s.lpe ∧ s.beginNext.chc = s.chc ∧ s.beginNext.dls = s.dls
      ∧ s.beginNext.ch = s.ch ∧ s.beginNext.pending = s.pending ∧ s.beginNext.counted = s.counted
      ∧ s.beginNext.draws = s.draws ∧ s.beginNext.exc.state = s.exc.state ∧ s.beginNext.exc.walk = s.exc.walk
      ∧ s.beginNext.tru.xt = s.tru.xt := by
  refine ⟨?_, ?_, ?_, ?_, ?_, ?_, ?_, ?_, ?_, ?_, ?_, ?_, ?_, ?_, ?_⟩ <;> (unfold State.beginNext; dsimp only; (repeat' split) <;> simp)

@[simp] theorem State.endSeq_frame (s : State) (out : PortOutcome) :
    (s.endSeq out).pins = s.pins ∧ (s.endSeq out).mod = s.mod ∧ (s.endSeq out).conv = s.conv
      ∧ (s.endSeq out).link = s.link ∧ (s.endSeq out).lpe = s.lpe ∧ (s.endSeq out).chc = s.chc
      ∧ (s.endSeq out).tru = s.tru ∧ (s.endSeq out).dls = s.dls ∧ (s.endSeq out).exc = s.exc
      ∧ (s.endSeq out).ch = s.ch ∧ (s.endSeq out).pending = s.pending ∧ (s.endSeq out).counted = s.counted
      ∧ (s.endSeq out).draws = s.draws ∧ (s.endSeq out).crw.held = s.crw.held
      ∧ (s.endSeq out).crw.softHold = s.crw.softHold ∧ (s.endSeq out).crw.clock = s.crw.clock
      ∧ (s.endSeq out).crw.straps = s.crw.straps ∧ (s.endSeq out).crw.base = s.crw.base := by
  refine ⟨?_, ?_, ?_, ?_, ?_, ?_, ?_, ?_, ?_, ?_, ?_, ?_, ?_, ?_, ?_, ?_, ?_, ?_⟩ <;> (unfold State.endSeq; (repeat' split) <;> simp)

/-! Of Machine/Exchange.lean. -/

@[simp] theorem State.complete_frame (s : State) (slot : Option Nat) (r : Result) :
    (s.complete slot r).pins = s.pins ∧ (s.complete slot r).crw = s.crw ∧ (s.complete slot r).mod = s.mod
      ∧ (s.complete slot r).conv = s.conv ∧ (s.complete slot r).link = s.link ∧ (s.complete slot r).lpe = s.lpe
      ∧ (s.complete slot r).chc = s.chc ∧ (s.complete slot r).tru = s.tru ∧ (s.complete slot r).dls = s.dls
      ∧ (s.complete slot r).mpt = s.mpt ∧ (s.complete slot r).ch = s.ch ∧ (s.complete slot r).pending = s.pending
      ∧ (s.complete slot r).counted = s.counted ∧ (s.complete slot r).draws = s.draws
      ∧ (s.complete slot r).exc.state = s.exc.state ∧ (s.complete slot r).exc.walk = s.exc.walk := by
  refine ⟨?_, ?_, ?_, ?_, ?_, ?_, ?_, ?_, ?_, ?_, ?_, ?_, ?_, ?_, ?_, ?_⟩ <;> (unfold State.complete; (repeat' split) <;> simp)

@[simp] theorem State.completeFixed_frame (s : State) (i : Nat) :
    (s.completeFixed i).pins = s.pins ∧ (s.completeFixed i).crw = s.crw ∧ (s.completeFixed i).mod = s.mod
      ∧ (s.completeFixed i).conv = s.conv ∧ (s.completeFixed i).link = s.link ∧ (s.completeFixed i).lpe = s.lpe
      ∧ (s.completeFixed i).chc = s.chc ∧ (s.completeFixed i).tru = s.tru ∧ (s.completeFixed i).dls = s.dls
      ∧ (s.completeFixed i).mpt = s.mpt ∧ (s.completeFixed i).ch = s.ch ∧ (s.completeFixed i).pending = s.pending
      ∧ (s.completeFixed i).counted = s.counted ∧ (s.completeFixed i).draws = s.draws
      ∧ (s.completeFixed i).exc.state = s.exc.state ∧ (s.completeFixed i).exc.walk = s.exc.walk := by
  refine ⟨?_, ?_, ?_, ?_, ?_, ?_, ?_, ?_, ?_, ?_, ?_, ?_, ?_, ?_, ?_, ?_⟩ <;> (unfold State.completeFixed; (repeat' split) <;> simp)

@[simp] theorem State.completeAll_frame (s : State) (slots : List Nat) :
    (s.completeAll slots).pins = s.pins ∧ (s.completeAll slots).crw = s.crw ∧ (s.completeAll slots).mod = s.mod
      ∧ (s.completeAll slots).conv = s.conv ∧ (s.completeAll slots).link = s.link ∧ (s.completeAll slots).lpe = s.lpe
      ∧ (s.completeAll slots).chc = s.chc ∧ (s.completeAll slots).tru = s.tru ∧ (s.completeAll slots).dls = s.dls
      ∧ (s.completeAll slots).mpt = s.mpt ∧ (s.completeAll slots).ch = s.ch
      ∧ (s.completeAll slots).pending = s.pending ∧ (s.completeAll slots).counted = s.counted
      ∧ (s.completeAll slots).draws = s.draws ∧ (s.completeAll slots).exc.state = s.exc.state
      ∧ (s.completeAll slots).exc.walk = s.exc.walk := by
  refine ⟨?_, ?_, ?_, ?_, ?_, ?_, ?_, ?_, ?_, ?_, ?_, ?_, ?_, ?_, ?_, ?_⟩ <;> (unfold State.completeAll; simp)

@[simp] theorem State.finishCapture_frame (s : State) (ctx : Bool) (r : Result) :
    (s.finishCapture ctx r).pins = s.pins ∧ (s.finishCapture ctx r).crw = s.crw ∧ (s.finishCapture ctx r).mod = s.mod
      ∧ (s.finishCapture ctx r).conv = s.conv ∧ (s.finishCapture ctx r).link = s.link
      ∧ (s.finishCapture ctx r).chc = s.chc ∧ (s.finishCapture ctx r).tru = s.tru
      ∧ (s.finishCapture ctx r).dls = s.dls ∧ (s.finishCapture ctx r).mpt = s.mpt ∧ (s.finishCapture ctx r).ch = s.ch
      ∧ (s.finishCapture ctx r).pending = s.pending ∧ (s.finishCapture ctx r).counted = s.counted
      ∧ (s.finishCapture ctx r).draws = s.draws ∧ (s.finishCapture ctx r).exc.state = s.exc.state
      ∧ (s.finishCapture ctx r).exc.walk = s.exc.walk ∧ (s.finishCapture ctx r).lpe.engine = s.lpe.engine
      ∧ (s.finishCapture ctx r).lpe.ready = s.lpe.ready := by
  refine ⟨?_, ?_, ?_, ?_, ?_, ?_, ?_, ?_, ?_, ?_, ?_, ?_, ?_, ?_, ?_, ?_, ?_⟩ <;> (unfold State.finishCapture; simp)

@[simp] theorem State.endCapture_frame (s : State) (ctx : Bool) (r : Result) :
    (s.endCapture ctx r).pins = s.pins ∧ (s.endCapture ctx r).crw = s.crw ∧ (s.endCapture ctx r).mod = s.mod
      ∧ (s.endCapture ctx r).conv = s.conv ∧ (s.endCapture ctx r).link = s.link ∧ (s.endCapture ctx r).chc = s.chc
      ∧ (s.endCapture ctx r).tru = s.tru ∧ (s.endCapture ctx r).dls = s.dls ∧ (s.endCapture ctx r).ch = s.ch
      ∧ (s.endCapture ctx r).pending = s.pending ∧ (s.endCapture ctx r).counted = s.counted
      ∧ (s.endCapture ctx r).draws = s.draws ∧ (s.endCapture ctx r).exc.state = s.exc.state
      ∧ (s.endCapture ctx r).exc.walk = s.exc.walk ∧ (s.endCapture ctx r).lpe.engine = s.lpe.engine
      ∧ (s.endCapture ctx r).lpe.ready = s.lpe.ready ∧ (s.endCapture ctx r).mpt.seq = s.mpt.seq := by
  refine ⟨?_, ?_, ?_, ?_, ?_, ?_, ?_, ?_, ?_, ?_, ?_, ?_, ?_, ?_, ?_, ?_, ?_⟩ <;> (unfold State.endCapture; dsimp only; (repeat' split) <;> simp)

@[simp] theorem State.endCapturesOf_frame (s : State) (c : Chan) (r : Result) :
    (s.endCapturesOf c r).pins = s.pins ∧ (s.endCapturesOf c r).crw = s.crw ∧ (s.endCapturesOf c r).mod = s.mod
      ∧ (s.endCapturesOf c r).conv = s.conv ∧ (s.endCapturesOf c r).link = s.link ∧ (s.endCapturesOf c r).chc = s.chc
      ∧ (s.endCapturesOf c r).tru = s.tru ∧ (s.endCapturesOf c r).dls = s.dls ∧ (s.endCapturesOf c r).ch = s.ch
      ∧ (s.endCapturesOf c r).pending = s.pending ∧ (s.endCapturesOf c r).counted = s.counted
      ∧ (s.endCapturesOf c r).draws = s.draws ∧ (s.endCapturesOf c r).exc.state = s.exc.state
      ∧ (s.endCapturesOf c r).exc.walk = s.exc.walk ∧ (s.endCapturesOf c r).lpe.engine = s.lpe.engine
      ∧ (s.endCapturesOf c r).lpe.ready = s.lpe.ready ∧ (s.endCapturesOf c r).mpt.seq = s.mpt.seq := by
  refine ⟨?_, ?_, ?_, ?_, ?_, ?_, ?_, ?_, ?_, ?_, ?_, ?_, ?_, ?_, ?_, ?_, ?_⟩ <;> (unfold State.endCapturesOf; dsimp only; (repeat' split) <;> simp)

@[simp] theorem State.cancelCaptures_frame (s : State) (tag : Half) :
    (s.cancelCaptures tag).pins = s.pins ∧ (s.cancelCaptures tag).crw = s.crw ∧ (s.cancelCaptures tag).mod = s.mod
      ∧ (s.cancelCaptures tag).conv = s.conv ∧ (s.cancelCaptures tag).link = s.link
      ∧ (s.cancelCaptures tag).chc = s.chc ∧ (s.cancelCaptures tag).tru = s.tru ∧ (s.cancelCaptures tag).dls = s.dls
      ∧ (s.cancelCaptures tag).ch = s.ch ∧ (s.cancelCaptures tag).pending = s.pending
      ∧ (s.cancelCaptures tag).counted = s.counted ∧ (s.cancelCaptures tag).draws = s.draws
      ∧ (s.cancelCaptures tag).exc.state = s.exc.state ∧ (s.cancelCaptures tag).exc.walk = s.exc.walk
      ∧ (s.cancelCaptures tag).lpe.engine = s.lpe.engine ∧ (s.cancelCaptures tag).lpe.ready = s.lpe.ready
      ∧ (s.cancelCaptures tag).mpt.seq = s.mpt.seq := by
  refine ⟨?_, ?_, ?_, ?_, ?_, ?_, ?_, ?_, ?_, ?_, ?_, ?_, ?_, ?_, ?_, ?_, ?_⟩ <;> (unfold State.cancelCaptures; dsimp only; (repeat' split) <;> simp)

@[simp] theorem State.pumpFetch_frame (s : State) :
    s.pumpFetch.pins = s.pins ∧ s.pumpFetch.crw = s.crw ∧ s.pumpFetch.mod = s.mod ∧ s.pumpFetch.conv = s.conv
      ∧ s.pumpFetch.link = s.link ∧ s.pumpFetch.lpe = s.lpe ∧ s.pumpFetch.chc = s.chc ∧ s.pumpFetch.tru = s.tru
      ∧ s.pumpFetch.dls = s.dls ∧ s.pumpFetch.ch = s.ch ∧ s.pumpFetch.pending = s.pending
      ∧ s.pumpFetch.counted = s.counted ∧ s.pumpFetch.draws = s.draws ∧ s.pumpFetch.exc.state = s.exc.state
      ∧ s.pumpFetch.exc.slots = s.exc.slots ∧ s.pumpFetch.exc.walk = s.exc.walk := by
  refine ⟨?_, ?_, ?_, ?_, ?_, ?_, ?_, ?_, ?_, ?_, ?_, ?_, ?_, ?_, ?_, ?_⟩ <;> (unfold State.pumpFetch; (repeat' split) <;> simp)

@[simp] theorem State.pumpReport_frame (s : State) :
    s.pumpReport.pins = s.pins ∧ s.pumpReport.crw = s.crw ∧ s.pumpReport.mod = s.mod ∧ s.pumpReport.conv = s.conv
      ∧ s.pumpReport.link = s.link ∧ s.pumpReport.lpe = s.lpe ∧ s.pumpReport.chc = s.chc ∧ s.pumpReport.tru = s.tru
      ∧ s.pumpReport.dls = s.dls ∧ s.pumpReport.ch = s.ch ∧ s.pumpReport.pending = s.pending
      ∧ s.pumpReport.counted = s.counted ∧ s.pumpReport.draws = s.draws ∧ s.pumpReport.exc.state = s.exc.state
      ∧ s.pumpReport.exc.slots = s.exc.slots ∧ s.pumpReport.exc.walk = s.exc.walk := by
  refine ⟨?_, ?_, ?_, ?_, ?_, ?_, ?_, ?_, ?_, ?_, ?_, ?_, ?_, ?_, ?_, ?_⟩ <;> (unfold State.pumpReport; (repeat' split) <;> simp)

@[simp] theorem State.pumpDump_frame (s : State) :
    s.pumpDump.pins = s.pins ∧ s.pumpDump.crw = s.crw ∧ s.pumpDump.mod = s.mod ∧ s.pumpDump.conv = s.conv
      ∧ s.pumpDump.link = s.link ∧ s.pumpDump.lpe = s.lpe ∧ s.pumpDump.chc = s.chc ∧ s.pumpDump.tru = s.tru
      ∧ s.pumpDump.dls = s.dls ∧ s.pumpDump.exc = s.exc ∧ s.pumpDump.ch = s.ch ∧ s.pumpDump.pending = s.pending
      ∧ s.pumpDump.counted = s.counted ∧ s.pumpDump.draws = s.draws := by
  refine ⟨?_, ?_, ?_, ?_, ?_, ?_, ?_, ?_, ?_, ?_, ?_, ?_, ?_, ?_⟩ <;> (unfold State.pumpDump; (repeat' split) <;> simp)

@[simp] theorem State.pumpWalk_frame (s : State) :
    s.pumpWalk.pins = s.pins ∧ s.pumpWalk.crw = s.crw ∧ s.pumpWalk.mod = s.mod ∧ s.pumpWalk.conv = s.conv
      ∧ s.pumpWalk.link = s.link ∧ s.pumpWalk.lpe = s.lpe ∧ s.pumpWalk.chc = s.chc ∧ s.pumpWalk.tru = s.tru
      ∧ s.pumpWalk.dls = s.dls ∧ s.pumpWalk.exc = s.exc ∧ s.pumpWalk.ch = s.ch ∧ s.pumpWalk.pending = s.pending
      ∧ s.pumpWalk.counted = s.counted ∧ s.pumpWalk.draws = s.draws := by
  refine ⟨?_, ?_, ?_, ?_, ?_, ?_, ?_, ?_, ?_, ?_, ?_, ?_, ?_, ?_⟩ <;> (unfold State.pumpWalk; (repeat' split) <;> simp)

@[simp] theorem State.pumpCapture_frame (s : State) :
    s.pumpCapture.pins = s.pins ∧ s.pumpCapture.crw = s.crw ∧ s.pumpCapture.mod = s.mod ∧ s.pumpCapture.conv = s.conv
      ∧ s.pumpCapture.link = s.link ∧ s.pumpCapture.chc = s.chc ∧ s.pumpCapture.tru = s.tru
      ∧ s.pumpCapture.dls = s.dls ∧ s.pumpCapture.exc = s.exc ∧ s.pumpCapture.ch = s.ch
      ∧ s.pumpCapture.pending = s.pending ∧ s.pumpCapture.counted = s.counted ∧ s.pumpCapture.draws = s.draws
      ∧ s.pumpCapture.lpe.engine = s.lpe.engine ∧ s.pumpCapture.lpe.ready = s.lpe.ready := by
  refine ⟨?_, ?_, ?_, ?_, ?_, ?_, ?_, ?_, ?_, ?_, ?_, ?_, ?_, ?_, ?_⟩ <;> (unfold State.pumpCapture; (repeat' split) <;> simp)

@[simp] theorem State.markReady_frame (s : State) :
    s.markReady.pins = s.pins ∧ s.markReady.crw = s.crw ∧ s.markReady.mod = s.mod ∧ s.markReady.conv = s.conv
      ∧ s.markReady.link = s.link ∧ s.markReady.lpe = s.lpe ∧ s.markReady.chc = s.chc ∧ s.markReady.tru = s.tru
      ∧ s.markReady.dls = s.dls ∧ s.markReady.mpt = s.mpt ∧ s.markReady.ch = s.ch ∧ s.markReady.pending = s.pending
      ∧ s.markReady.counted = s.counted ∧ s.markReady.draws = s.draws ∧ s.markReady.exc.state = s.exc.state
      ∧ s.markReady.exc.slots = s.exc.slots ∧ s.markReady.exc.walk = s.exc.walk := by
  refine ⟨?_, ?_, ?_, ?_, ?_, ?_, ?_, ?_, ?_, ?_, ?_, ?_, ?_, ?_, ?_, ?_, ?_⟩ <;> (unfold State.markReady; (repeat' split) <;> simp)

@[simp] theorem State.follow_frame (s : State) :
    s.follow.pins = s.pins ∧ s.follow.crw = s.crw ∧ s.follow.mod = s.mod ∧ s.follow.conv = s.conv
      ∧ s.follow.link = s.link ∧ s.follow.chc = s.chc ∧ s.follow.tru = s.tru ∧ s.follow.dls = s.dls
      ∧ s.follow.ch = s.ch ∧ s.follow.pending = s.pending ∧ s.follow.counted = s.counted ∧ s.follow.draws = s.draws
      ∧ s.follow.exc.state = s.exc.state ∧ s.follow.exc.slots = s.exc.slots ∧ s.follow.exc.walk = s.exc.walk
      ∧ s.follow.lpe.engine = s.lpe.engine ∧ s.follow.lpe.ready = s.lpe.ready := by
  refine ⟨?_, ?_, ?_, ?_, ?_, ?_, ?_, ?_, ?_, ?_, ?_, ?_, ?_, ?_, ?_, ?_, ?_⟩ <;> (unfold State.follow; simp)

@[simp] theorem State.dropFetch_frame (s : State) :
    s.dropFetch.pins = s.pins ∧ s.dropFetch.crw = s.crw ∧ s.dropFetch.mod = s.mod ∧ s.dropFetch.conv = s.conv
      ∧ s.dropFetch.link = s.link ∧ s.dropFetch.lpe = s.lpe ∧ s.dropFetch.chc = s.chc ∧ s.dropFetch.tru = s.tru
      ∧ s.dropFetch.dls = s.dls ∧ s.dropFetch.ch = s.ch ∧ s.dropFetch.pending = s.pending
      ∧ s.dropFetch.counted = s.counted ∧ s.dropFetch.draws = s.draws ∧ s.dropFetch.exc.state = s.exc.state
      ∧ s.dropFetch.exc.slots = s.exc.slots ∧ s.dropFetch.exc.walk = s.exc.walk ∧ s.dropFetch.mpt.seq = s.mpt.seq := by
  refine ⟨?_, ?_, ?_, ?_, ?_, ?_, ?_, ?_, ?_, ?_, ?_, ?_, ?_, ?_, ?_, ?_, ?_⟩ <;> (unfold State.dropFetch; (repeat' split) <;> simp)

@[simp] theorem State.acceptSheet_frame (s : State) (ws : List Word) (sheet : Sheet) :
    (s.acceptSheet ws sheet).pins = s.pins ∧ (s.acceptSheet ws sheet).crw = s.crw
      ∧ (s.acceptSheet ws sheet).mod = s.mod ∧ (s.acceptSheet ws sheet).conv = s.conv
      ∧ (s.acceptSheet ws sheet).link = s.link ∧ (s.acceptSheet ws sheet).lpe = s.lpe
      ∧ (s.acceptSheet ws sheet).chc = s.chc ∧ (s.acceptSheet ws sheet).tru = s.tru
      ∧ (s.acceptSheet ws sheet).dls = s.dls ∧ (s.acceptSheet ws sheet).mpt = s.mpt
      ∧ (s.acceptSheet ws sheet).ch = s.ch ∧ (s.acceptSheet ws sheet).pending = s.pending
      ∧ (s.acceptSheet ws sheet).counted = s.counted ∧ (s.acceptSheet ws sheet).draws = s.draws
      ∧ (s.acceptSheet ws sheet).exc.state = s.exc.state ∧ (s.acceptSheet ws sheet).exc.slots = s.exc.slots
      ∧ (s.acceptSheet ws sheet).exc.walk = s.exc.walk := by
  refine ⟨?_, ?_, ?_, ?_, ?_, ?_, ?_, ?_, ?_, ?_, ?_, ?_, ?_, ?_, ?_, ?_, ?_⟩ <;> (unfold State.acceptSheet; simp)

@[simp] theorem State.replaceWaiting_frame (s : State) :
    s.replaceWaiting.pins = s.pins ∧ s.replaceWaiting.crw = s.crw ∧ s.replaceWaiting.mod = s.mod
      ∧ s.replaceWaiting.conv = s.conv ∧ s.replaceWaiting.link = s.link ∧ s.replaceWaiting.lpe = s.lpe
      ∧ s.replaceWaiting.chc = s.chc ∧ s.replaceWaiting.tru = s.tru ∧ s.replaceWaiting.dls = s.dls
      ∧ s.replaceWaiting.mpt = s.mpt ∧ s.replaceWaiting.ch = s.ch ∧ s.replaceWaiting.pending = s.pending
      ∧ s.replaceWaiting.counted = s.counted ∧ s.replaceWaiting.draws = s.draws
      ∧ s.replaceWaiting.exc.state = s.exc.state ∧ s.replaceWaiting.exc.slots = s.exc.slots
      ∧ s.replaceWaiting.exc.walk = s.exc.walk := by
  refine ⟨?_, ?_, ?_, ?_, ?_, ?_, ?_, ?_, ?_, ?_, ?_, ?_, ?_, ?_, ?_, ?_, ?_⟩ <;> (unfold State.replaceWaiting; (repeat' split) <;> simp)

@[simp] theorem State.snapshot_frame (s : State) (final : Bool) :
    (s.snapshot final).pins = s.pins ∧ (s.snapshot final).crw = s.crw ∧ (s.snapshot final).mod = s.mod
      ∧ (s.snapshot final).conv = s.conv ∧ (s.snapshot final).link = s.link ∧ (s.snapshot final).lpe = s.lpe
      ∧ (s.snapshot final).chc = s.chc ∧ (s.snapshot final).tru = s.tru ∧ (s.snapshot final).dls = s.dls
      ∧ (s.snapshot final).ch = s.ch ∧ (s.snapshot final).pending = s.pending ∧ (s.snapshot final).counted = s.counted
      ∧ (s.snapshot final).draws = s.draws ∧ (s.snapshot final).exc.state = s.exc.state
      ∧ (s.snapshot final).exc.slots = s.exc.slots ∧ (s.snapshot final).exc.walk = s.exc.walk := by
  refine ⟨?_, ?_, ?_, ?_, ?_, ?_, ?_, ?_, ?_, ?_, ?_, ?_, ?_, ?_, ?_, ?_⟩ <;> (unfold State.snapshot; simp)

/-! Of Machine/Ops.lean. -/

@[simp] theorem State.move_frame (s : State) (c : Chan) (st : ChanState) :
    (s.move c st).pins = s.pins ∧ (s.move c st).crw = s.crw ∧ (s.move c st).mod = s.mod ∧ (s.move c st).link = s.link
      ∧ (s.move c st).chc = s.chc ∧ (s.move c st).tru = s.tru ∧ (s.move c st).dls = s.dls ∧ (s.move c st).exc = s.exc
      ∧ (s.move c st).mpt = s.mpt ∧ (s.move c st).pending = s.pending ∧ (s.move c st).counted = s.counted
      ∧ (s.move c st).draws = s.draws := by
  refine ⟨?_, ?_, ?_, ?_, ?_, ?_, ?_, ?_, ?_, ?_, ?_, ?_⟩ <;> (unfold State.move; simp)

@[simp] theorem State.moveAll_frame (s : State) (cs : List Chan) (st : ChanState) :
    (s.moveAll cs st).pins = s.pins ∧ (s.moveAll cs st).crw = s.crw ∧ (s.moveAll cs st).mod = s.mod
      ∧ (s.moveAll cs st).link = s.link ∧ (s.moveAll cs st).chc = s.chc ∧ (s.moveAll cs st).tru = s.tru
      ∧ (s.moveAll cs st).dls = s.dls ∧ (s.moveAll cs st).exc = s.exc ∧ (s.moveAll cs st).mpt = s.mpt
      ∧ (s.moveAll cs st).pending = s.pending ∧ (s.moveAll cs st).counted = s.counted
      ∧ (s.moveAll cs st).draws = s.draws := by
  refine ⟨?_, ?_, ?_, ?_, ?_, ?_, ?_, ?_, ?_, ?_, ?_, ?_⟩ <;> (unfold State.moveAll; simp)

@[simp] theorem State.endLife_frame (s : State) (c : Chan) (r : Result) :
    (s.endLife c r).pins = s.pins ∧ (s.endLife c r).crw = s.crw ∧ (s.endLife c r).mod = s.mod
      ∧ (s.endLife c r).conv = s.conv ∧ (s.endLife c r).link = s.link ∧ (s.endLife c r).lpe = s.lpe
      ∧ (s.endLife c r).chc = s.chc ∧ (s.endLife c r).tru = s.tru ∧ (s.endLife c r).dls = s.dls
      ∧ (s.endLife c r).mpt = s.mpt ∧ (s.endLife c r).pending = s.pending ∧ (s.endLife c r).counted = s.counted
      ∧ (s.endLife c r).draws = s.draws ∧ (s.endLife c r).exc.state = s.exc.state
      ∧ (s.endLife c r).exc.walk = s.exc.walk := by
  refine ⟨?_, ?_, ?_, ?_, ?_, ?_, ?_, ?_, ?_, ?_, ?_, ?_, ?_, ?_, ?_⟩ <;> (unfold State.endLife; (repeat' split) <;> simp)

@[simp] theorem State.enterTrip_frame (s : State) (c : Chan) (cause : TripCause) (detail : Nat) :
    (s.enterTrip c cause detail).pins = s.pins ∧ (s.enterTrip c cause detail).mod = s.mod
      ∧ (s.enterTrip c cause detail).link = s.link ∧ (s.enterTrip c cause detail).chc = s.chc
      ∧ (s.enterTrip c cause detail).dls = s.dls ∧ (s.enterTrip c cause detail).pending = s.pending
      ∧ (s.enterTrip c cause detail).counted = s.counted ∧ (s.enterTrip c cause detail).draws = s.draws
      ∧ (s.enterTrip c cause detail).crw.held = s.crw.held
      ∧ (s.enterTrip c cause detail).crw.softHold = s.crw.softHold
      ∧ (s.enterTrip c cause detail).crw.clock = s.crw.clock ∧ (s.enterTrip c cause detail).crw.straps = s.crw.straps
      ∧ (s.enterTrip c cause detail).crw.base = s.crw.base ∧ (s.enterTrip c cause detail).exc.state = s.exc.state
      ∧ (s.enterTrip c cause detail).exc.walk = s.exc.walk ∧ (s.enterTrip c cause detail).tru.xt = s.tru.xt
      ∧ (s.enterTrip c cause detail).mpt.seq = s.mpt.seq := by
  refine ⟨?_, ?_, ?_, ?_, ?_, ?_, ?_, ?_, ?_, ?_, ?_, ?_, ?_, ?_, ?_, ?_, ?_⟩ <;> (unfold State.enterTrip; simp)

@[simp] theorem State.laterCause_frame (s : State) (c : Chan) (cause : TripCause) :
    (s.laterCause c cause).pins = s.pins ∧ (s.laterCause c cause).crw = s.crw ∧ (s.laterCause c cause).mod = s.mod
      ∧ (s.laterCause c cause).conv = s.conv ∧ (s.laterCause c cause).link = s.link
      ∧ (s.laterCause c cause).lpe = s.lpe ∧ (s.laterCause c cause).chc = s.chc ∧ (s.laterCause c cause).tru = s.tru
      ∧ (s.laterCause c cause).dls = s.dls ∧ (s.laterCause c cause).exc = s.exc ∧ (s.laterCause c cause).mpt = s.mpt
      ∧ (s.laterCause c cause).pending = s.pending ∧ (s.laterCause c cause).counted = s.counted
      ∧ (s.laterCause c cause).draws = s.draws := by
  refine ⟨?_, ?_, ?_, ?_, ?_, ?_, ?_, ?_, ?_, ?_, ?_, ?_, ?_, ?_⟩ <;> (unfold State.laterCause; simp)

@[simp] theorem State.tripChannel_frame (s : State) (c : Chan) (cause : TripCause) (detail : Nat) :
    (s.tripChannel c cause detail).pins = s.pins ∧ (s.tripChannel c cause detail).mod = s.mod
      ∧ (s.tripChannel c cause detail).link = s.link ∧ (s.tripChannel c cause detail).chc = s.chc
      ∧ (s.tripChannel c cause detail).dls = s.dls ∧ (s.tripChannel c cause detail).pending = s.pending
      ∧ (s.tripChannel c cause detail).counted = s.counted ∧ (s.tripChannel c cause detail).draws = s.draws
      ∧ (s.tripChannel c cause detail).crw.held = s.crw.held
      ∧ (s.tripChannel c cause detail).crw.softHold = s.crw.softHold
      ∧ (s.tripChannel c cause detail).crw.clock = s.crw.clock
      ∧ (s.tripChannel c cause detail).crw.straps = s.crw.straps
      ∧ (s.tripChannel c cause detail).crw.base = s.crw.base ∧ (s.tripChannel c cause detail).exc.state = s.exc.state
      ∧ (s.tripChannel c cause detail).exc.walk = s.exc.walk ∧ (s.tripChannel c cause detail).tru.xt = s.tru.xt
      ∧ (s.tripChannel c cause detail).mpt.seq = s.mpt.seq := by
  refine ⟨?_, ?_, ?_, ?_, ?_, ?_, ?_, ?_, ?_, ?_, ?_, ?_, ?_, ?_, ?_, ?_, ?_⟩ <;> (unfold State.tripChannel; (repeat' split) <;> simp)

@[simp] theorem State.tripEvent_frame (s : State) (addressed : List Chan) (cause : TripCause) (detail : Nat) :
    (s.tripEvent addressed cause detail).pins = s.pins ∧ (s.tripEvent addressed cause detail).mod = s.mod
      ∧ (s.tripEvent addressed cause detail).link = s.link ∧ (s.tripEvent addressed cause detail).chc = s.chc
      ∧ (s.tripEvent addressed cause detail).dls = s.dls ∧ (s.tripEvent addressed cause detail).pending = s.pending
      ∧ (s.tripEvent addressed cause detail).counted = s.counted
      ∧ (s.tripEvent addressed cause detail).draws = s.draws
      ∧ (s.tripEvent addressed cause detail).crw.held = s.crw.held
      ∧ (s.tripEvent addressed cause detail).crw.softHold = s.crw.softHold
      ∧ (s.tripEvent addressed cause detail).crw.clock = s.crw.clock
      ∧ (s.tripEvent addressed cause detail).crw.straps = s.crw.straps
      ∧ (s.tripEvent addressed cause detail).crw.base = s.crw.base
      ∧ (s.tripEvent addressed cause detail).exc.state = s.exc.state
      ∧ (s.tripEvent addressed cause detail).exc.walk = s.exc.walk
      ∧ (s.tripEvent addressed cause detail).tru.xt = s.tru.xt
      ∧ (s.tripEvent addressed cause detail).mpt.seq = s.mpt.seq := by
  unfold State.tripEvent
  exact ⟨foldl_pins _ (fun t c => by (repeat' split) <;> simp) _ _,
    foldl_mod _ (fun t c => by (repeat' split) <;> simp) _ _,
    foldl_link _ (fun t c => by (repeat' split) <;> simp) _ _,
    foldl_chc _ (fun t c => by (repeat' split) <;> simp) _ _,
    foldl_dls _ (fun t c => by (repeat' split) <;> simp) _ _,
    foldl_pending _ (fun t c => by (repeat' split) <;> simp) _ _,
    foldl_counted _ (fun t c => by (repeat' split) <;> simp) _ _,
    foldl_draws _ (fun t c => by (repeat' split) <;> simp) _ _,
    foldl_crw_held _ (fun t c => by (repeat' split) <;> simp) _ _,
    foldl_crw_softHold _ (fun t c => by (repeat' split) <;> simp) _ _,
    foldl_crw_clock _ (fun t c => by (repeat' split) <;> simp) _ _,
    foldl_crw_straps _ (fun t c => by (repeat' split) <;> simp) _ _,
    foldl_crw_base _ (fun t c => by (repeat' split) <;> simp) _ _,
    foldl_exc_state _ (fun t c => by (repeat' split) <;> simp) _ _,
    foldl_exc_walk _ (fun t c => by (repeat' split) <;> simp) _ _,
    foldl_tru_xt _ (fun t c => by (repeat' split) <;> simp) _ _,
    foldl_mpt_seq _ (fun t c => by (repeat' split) <;> simp) _ _⟩

@[simp] theorem State.rampFrom_frame (s : State) (cause : RampCause) (c : Chan) :
    (s.rampFrom cause c).pins = s.pins ∧ (s.rampFrom cause c).crw = s.crw ∧ (s.rampFrom cause c).mod = s.mod
      ∧ (s.rampFrom cause c).link = s.link ∧ (s.rampFrom cause c).chc = s.chc ∧ (s.rampFrom cause c).tru = s.tru
      ∧ (s.rampFrom cause c).dls = s.dls ∧ (s.rampFrom cause c).exc = s.exc ∧ (s.rampFrom cause c).mpt = s.mpt
      ∧ (s.rampFrom cause c).pending = s.pending ∧ (s.rampFrom cause c).counted = s.counted
      ∧ (s.rampFrom cause c).draws = s.draws := by
  refine ⟨?_, ?_, ?_, ?_, ?_, ?_, ?_, ?_, ?_, ?_, ?_, ?_⟩ <;> (unfold State.rampFrom; (repeat' split) <;> simp)

@[simp] theorem State.fastStopOne_frame (s : State) (c : Chan) :
    (s.fastStopOne c).pins = s.pins ∧ (s.fastStopOne c).crw = s.crw ∧ (s.fastStopOne c).mod = s.mod
      ∧ (s.fastStopOne c).link = s.link ∧ (s.fastStopOne c).chc = s.chc ∧ (s.fastStopOne c).tru = s.tru
      ∧ (s.fastStopOne c).dls = s.dls ∧ (s.fastStopOne c).mpt = s.mpt ∧ (s.fastStopOne c).pending = s.pending
      ∧ (s.fastStopOne c).counted = s.counted ∧ (s.fastStopOne c).draws = s.draws
      ∧ (s.fastStopOne c).exc.state = s.exc.state ∧ (s.fastStopOne c).exc.walk = s.exc.walk := by
  refine ⟨?_, ?_, ?_, ?_, ?_, ?_, ?_, ?_, ?_, ?_, ?_, ?_, ?_⟩ <;> (unfold State.fastStopOne; (repeat' split) <;> simp)

@[simp] theorem State.fastStopRequest_frame (s : State) (named : List Chan) :
    (s.fastStopRequest named).pins = s.pins ∧ (s.fastStopRequest named).mod = s.mod
      ∧ (s.fastStopRequest named).link = s.link ∧ (s.fastStopRequest named).chc = s.chc
      ∧ (s.fastStopRequest named).dls = s.dls ∧ (s.fastStopRequest named).pending = s.pending
      ∧ (s.fastStopRequest named).counted = s.counted ∧ (s.fastStopRequest named).draws = s.draws
      ∧ (s.fastStopRequest named).crw.held = s.crw.held ∧ (s.fastStopRequest named).crw.softHold = s.crw.softHold
      ∧ (s.fastStopRequest named).crw.clock = s.crw.clock ∧ (s.fastStopRequest named).crw.straps = s.crw.straps
      ∧ (s.fastStopRequest named).crw.base = s.crw.base ∧ (s.fastStopRequest named).exc.state = s.exc.state
      ∧ (s.fastStopRequest named).exc.walk = s.exc.walk ∧ (s.fastStopRequest named).tru.xt = s.tru.xt
      ∧ (s.fastStopRequest named).mpt.seq = s.mpt.seq := by
  refine ⟨?_, ?_, ?_, ?_, ?_, ?_, ?_, ?_, ?_, ?_, ?_, ?_, ?_, ?_, ?_, ?_, ?_⟩ <;> (unfold State.fastStopRequest; dsimp only; (repeat' split) <;> simp)

@[simp] theorem State.lowLevelTrips_frame (s : State) (inputs : List Quad) (cs : List Chan) :
    (s.lowLevelTrips inputs cs).pins = s.pins ∧ (s.lowLevelTrips inputs cs).mod = s.mod
      ∧ (s.lowLevelTrips inputs cs).link = s.link ∧ (s.lowLevelTrips inputs cs).chc = s.chc
      ∧ (s.lowLevelTrips inputs cs).dls = s.dls ∧ (s.lowLevelTrips inputs cs).pending = s.pending
      ∧ (s.lowLevelTrips inputs cs).counted = s.counted ∧ (s.lowLevelTrips inputs cs).crw.held = s.crw.held
      ∧ (s.lowLevelTrips inputs cs).crw.softHold = s.crw.softHold
      ∧ (s.lowLevelTrips inputs cs).crw.clock = s.crw.clock ∧ (s.lowLevelTrips inputs cs).crw.straps = s.crw.straps
      ∧ (s.lowLevelTrips inputs cs).crw.base = s.crw.base ∧ (s.lowLevelTrips inputs cs).exc.state = s.exc.state
      ∧ (s.lowLevelTrips inputs cs).exc.walk = s.exc.walk ∧ (s.lowLevelTrips inputs cs).tru.xt = s.tru.xt
      ∧ (s.lowLevelTrips inputs cs).mpt.seq = s.mpt.seq := by
  refine ⟨?_, ?_, ?_, ?_, ?_, ?_, ?_, ?_, ?_, ?_, ?_, ?_, ?_, ?_, ?_, ?_⟩ <;> (unfold State.lowLevelTrips; (repeat' split) <;> simp)

@[simp] theorem State.lowLevelStops_frame (s : State) (cs : List Chan) :
    (s.lowLevelStops cs).pins = s.pins ∧ (s.lowLevelStops cs).mod = s.mod ∧ (s.lowLevelStops cs).link = s.link
      ∧ (s.lowLevelStops cs).chc = s.chc ∧ (s.lowLevelStops cs).dls = s.dls ∧ (s.lowLevelStops cs).pending = s.pending
      ∧ (s.lowLevelStops cs).counted = s.counted ∧ (s.lowLevelStops cs).draws = s.draws
      ∧ (s.lowLevelStops cs).crw.held = s.crw.held ∧ (s.lowLevelStops cs).crw.softHold = s.crw.softHold
      ∧ (s.lowLevelStops cs).crw.clock = s.crw.clock ∧ (s.lowLevelStops cs).crw.straps = s.crw.straps
      ∧ (s.lowLevelStops cs).crw.base = s.crw.base ∧ (s.lowLevelStops cs).exc.state = s.exc.state
      ∧ (s.lowLevelStops cs).exc.walk = s.exc.walk ∧ (s.lowLevelStops cs).tru.xt = s.tru.xt
      ∧ (s.lowLevelStops cs).mpt.seq = s.mpt.seq := by
  refine ⟨?_, ?_, ?_, ?_, ?_, ?_, ?_, ?_, ?_, ?_, ?_, ?_, ?_, ?_, ?_, ?_, ?_⟩ <;> (unfold State.lowLevelStops; dsimp only; (repeat' split) <;> simp)

@[simp] theorem State.startJob_frame (s : State) :
    s.startJob.pins = s.pins ∧ s.startJob.crw = s.crw ∧ s.startJob.mod = s.mod ∧ s.startJob.conv = s.conv
      ∧ s.startJob.link = s.link ∧ s.startJob.chc = s.chc ∧ s.startJob.tru = s.tru ∧ s.startJob.dls = s.dls
      ∧ s.startJob.exc = s.exc ∧ s.startJob.mpt = s.mpt ∧ s.startJob.ch = s.ch ∧ s.startJob.pending = s.pending
      ∧ s.startJob.counted = s.counted ∧ s.startJob.draws = s.draws := by
  refine ⟨?_, ?_, ?_, ?_, ?_, ?_, ?_, ?_, ?_, ?_, ?_, ?_, ?_, ?_⟩ <;> (unfold State.startJob; (repeat' split) <;> simp)

@[simp] theorem State.countLate_frame (s : State) (c : Chan) :
    (s.countLate c).pins = s.pins ∧ (s.countLate c).crw = s.crw ∧ (s.countLate c).mod = s.mod
      ∧ (s.countLate c).conv = s.conv ∧ (s.countLate c).link = s.link ∧ (s.countLate c).lpe = s.lpe
      ∧ (s.countLate c).chc = s.chc ∧ (s.countLate c).tru = s.tru ∧ (s.countLate c).dls = s.dls
      ∧ (s.countLate c).exc = s.exc ∧ (s.countLate c).mpt = s.mpt ∧ (s.countLate c).pending = s.pending
      ∧ (s.countLate c).counted = s.counted ∧ (s.countLate c).draws = s.draws := by
  refine ⟨?_, ?_, ?_, ?_, ?_, ?_, ?_, ?_, ?_, ?_, ?_, ?_, ?_, ?_⟩ <;> (unfold State.countLate; simp)

@[simp] theorem State.passDeadline_frame (s : State) (c : Chan) :
    (s.passDeadline c).pins = s.pins ∧ (s.passDeadline c).crw = s.crw ∧ (s.passDeadline c).mod = s.mod
      ∧ (s.passDeadline c).link = s.link ∧ (s.passDeadline c).chc = s.chc ∧ (s.passDeadline c).tru = s.tru
      ∧ (s.passDeadline c).dls = s.dls ∧ (s.passDeadline c).exc = s.exc ∧ (s.passDeadline c).mpt = s.mpt
      ∧ (s.passDeadline c).pending = s.pending ∧ (s.passDeadline c).counted = s.counted
      ∧ (s.passDeadline c).draws = s.draws := by
  refine ⟨?_, ?_, ?_, ?_, ?_, ?_, ?_, ?_, ?_, ?_, ?_, ?_⟩ <;> (unfold State.passDeadline; dsimp only; (repeat' split) <;> simp)

@[simp] theorem State.markCarriers_frame (s : State) :
    s.markCarriers.pins = s.pins ∧ s.markCarriers.crw = s.crw ∧ s.markCarriers.mod = s.mod
      ∧ s.markCarriers.conv = s.conv ∧ s.markCarriers.link = s.link ∧ s.markCarriers.lpe = s.lpe
      ∧ s.markCarriers.chc = s.chc ∧ s.markCarriers.tru = s.tru ∧ s.markCarriers.dls = s.dls
      ∧ s.markCarriers.exc = s.exc ∧ s.markCarriers.mpt = s.mpt ∧ s.markCarriers.pending = s.pending
      ∧ s.markCarriers.counted = s.counted ∧ s.markCarriers.draws = s.draws := by
  refine ⟨?_, ?_, ?_, ?_, ?_, ?_, ?_, ?_, ?_, ?_, ?_, ?_, ?_, ?_⟩ <;> (unfold State.markCarriers; simp)

@[simp] theorem State.startTimebase_frame (s : State) :
    s.startTimebase.pins = s.pins ∧ s.startTimebase.crw = s.crw ∧ s.startTimebase.conv = s.conv
      ∧ s.startTimebase.lpe = s.lpe ∧ s.startTimebase.chc = s.chc ∧ s.startTimebase.tru = s.tru
      ∧ s.startTimebase.dls = s.dls ∧ s.startTimebase.exc = s.exc ∧ s.startTimebase.mpt = s.mpt
      ∧ s.startTimebase.pending = s.pending ∧ s.startTimebase.counted = s.counted ∧ s.startTimebase.draws = s.draws
      ∧ s.startTimebase.mod.p = s.mod.p ∧ s.startTimebase.link.udc = s.link.udc := by
  refine ⟨?_, ?_, ?_, ?_, ?_, ?_, ?_, ?_, ?_, ?_, ?_, ?_, ?_, ?_⟩ <;> (unfold State.startTimebase; simp)

@[simp] theorem State.loadXt_frame (s : State) :
    s.loadXt.pins = s.pins ∧ s.loadXt.crw = s.crw ∧ s.loadXt.mod = s.mod ∧ s.loadXt.conv = s.conv
      ∧ s.loadXt.link = s.link ∧ s.loadXt.lpe = s.lpe ∧ s.loadXt.chc = s.chc ∧ s.loadXt.dls = s.dls
      ∧ s.loadXt.exc = s.exc ∧ s.loadXt.mpt = s.mpt ∧ s.loadXt.ch = s.ch ∧ s.loadXt.pending = s.pending
      ∧ s.loadXt.counted = s.counted ∧ s.loadXt.draws = s.draws ∧ s.loadXt.tru.dumps = s.tru.dumps := by
  refine ⟨?_, ?_, ?_, ?_, ?_, ?_, ?_, ?_, ?_, ?_, ?_, ?_, ?_, ?_, ?_⟩ <;> (unfold State.loadXt; (repeat' split) <;> simp)

/-! Of Machine/Clock.lean. -/

@[simp] theorem State.softResetValues_frame (s : State) :
    s.softResetValues.pins = s.pins ∧ s.softResetValues.pending = s.pending ∧ s.softResetValues.counted = s.counted
      ∧ s.softResetValues.draws = s.draws ∧ s.softResetValues.crw.held = s.crw.held
      ∧ s.softResetValues.crw.clock = s.crw.clock ∧ s.softResetValues.crw.straps = s.crw.straps
      ∧ s.softResetValues.crw.base = s.crw.base := by
  refine ⟨?_, ?_, ?_, ?_, ?_, ?_, ?_, ?_⟩ <;> (unfold State.softResetValues; dsimp only; (repeat' split) <;> simp)

@[simp] theorem State.failAttempt_frame (s : State) :
    s.failAttempt.pins = s.pins ∧ s.failAttempt.mod = s.mod ∧ s.failAttempt.conv = s.conv
      ∧ s.failAttempt.link = s.link ∧ s.failAttempt.lpe = s.lpe ∧ s.failAttempt.chc = s.chc
      ∧ s.failAttempt.tru = s.tru ∧ s.failAttempt.dls = s.dls ∧ s.failAttempt.exc = s.exc ∧ s.failAttempt.mpt = s.mpt
      ∧ s.failAttempt.ch = s.ch ∧ s.failAttempt.pending = s.pending ∧ s.failAttempt.counted = s.counted
      ∧ s.failAttempt.draws = s.draws ∧ s.failAttempt.crw.held = s.crw.held
      ∧ s.failAttempt.crw.softHold = s.crw.softHold ∧ s.failAttempt.crw.straps = s.crw.straps
      ∧ s.failAttempt.crw.base = s.crw.base := by
  refine ⟨?_, ?_, ?_, ?_, ?_, ?_, ?_, ?_, ?_, ?_, ?_, ?_, ?_, ?_, ?_, ?_, ?_, ?_⟩ <;> (unfold State.failAttempt; dsimp only; (repeat' split) <;> simp)

@[simp] theorem State.enterValid_frame (s : State) :
    s.enterValid.pins = s.pins ∧ s.enterValid.conv = s.conv ∧ s.enterValid.lpe = s.lpe ∧ s.enterValid.chc = s.chc
      ∧ s.enterValid.tru = s.tru ∧ s.enterValid.dls = s.dls ∧ s.enterValid.exc = s.exc
      ∧ s.enterValid.pending = s.pending ∧ s.enterValid.counted = s.counted ∧ s.enterValid.draws = s.draws
      ∧ s.enterValid.crw.held = s.crw.held ∧ s.enterValid.crw.softHold = s.crw.softHold
      ∧ s.enterValid.crw.straps = s.crw.straps ∧ s.enterValid.crw.base = s.crw.base ∧ s.enterValid.mod.p = s.mod.p
      ∧ s.enterValid.link.udc = s.link.udc ∧ s.enterValid.mpt.seq = s.mpt.seq := by
  refine ⟨?_, ?_, ?_, ?_, ?_, ?_, ?_, ?_, ?_, ?_, ?_, ?_, ?_, ?_, ?_, ?_, ?_⟩ <;> (unfold State.enterValid; dsimp only; (repeat' split) <;> simp)

@[simp] theorem State.stopExchange_frame (s : State) :
    s.stopExchange.pins = s.pins ∧ s.stopExchange.crw = s.crw ∧ s.stopExchange.mod = s.mod
      ∧ s.stopExchange.conv = s.conv ∧ s.stopExchange.link = s.link ∧ s.stopExchange.tru = s.tru
      ∧ s.stopExchange.dls = s.dls ∧ s.stopExchange.pending = s.pending ∧ s.stopExchange.counted = s.counted
      ∧ s.stopExchange.draws = s.draws ∧ s.stopExchange.chc.pairs = s.chc.pairs
      ∧ s.stopExchange.lpe.engine = s.lpe.engine ∧ s.stopExchange.lpe.ready = s.lpe.ready
      ∧ s.stopExchange.mpt.seq = s.mpt.seq := by
  refine ⟨?_, ?_, ?_, ?_, ?_, ?_, ?_, ?_, ?_, ?_, ?_, ?_, ?_, ?_⟩ <;> (unfold State.stopExchange; simp)

@[simp] theorem State.clockFailure_frame (s : State) :
    s.clockFailure.pins = s.pins ∧ s.clockFailure.mod = s.mod ∧ s.clockFailure.link = s.link
      ∧ s.clockFailure.dls = s.dls ∧ s.clockFailure.pending = s.pending ∧ s.clockFailure.counted = s.counted
      ∧ s.clockFailure.draws = s.draws ∧ s.clockFailure.crw.held = s.crw.held
      ∧ s.clockFailure.crw.softHold = s.crw.softHold ∧ s.clockFailure.crw.straps = s.crw.straps
      ∧ s.clockFailure.crw.base = s.crw.base ∧ s.clockFailure.chc.pairs = s.chc.pairs
      ∧ s.clockFailure.tru.xt = s.tru.xt ∧ s.clockFailure.mpt.seq = s.mpt.seq := by
  refine ⟨?_, ?_, ?_, ?_, ?_, ?_, ?_, ?_, ?_, ?_, ?_, ?_, ?_, ?_⟩ <;> (unfold State.clockFailure; simp)

/-! Of Machine/Window.lean. -/

@[simp] theorem State.quiesceLife_frame (s : State) (c : Chan) :
    (s.quiesceLife c).pins = s.pins ∧ (s.quiesceLife c).crw = s.crw ∧ (s.quiesceLife c).mod = s.mod
      ∧ (s.quiesceLife c).link = s.link ∧ (s.quiesceLife c).chc = s.chc ∧ (s.quiesceLife c).tru = s.tru
      ∧ (s.quiesceLife c).dls = s.dls ∧ (s.quiesceLife c).mpt = s.mpt ∧ (s.quiesceLife c).pending = s.pending
      ∧ (s.quiesceLife c).counted = s.counted ∧ (s.quiesceLife c).draws = s.draws
      ∧ (s.quiesceLife c).exc.state = s.exc.state ∧ (s.quiesceLife c).exc.walk = s.exc.walk := by
  refine ⟨?_, ?_, ?_, ?_, ?_, ?_, ?_, ?_, ?_, ?_, ?_, ?_, ?_⟩ <;> (unfold State.quiesceLife; (repeat' split) <;> simp)

@[simp] theorem State.enterQuiescing_frame (s : State) :
    s.enterQuiescing.pins = s.pins ∧ s.enterQuiescing.crw = s.crw ∧ s.enterQuiescing.mod = s.mod
      ∧ s.enterQuiescing.link = s.link ∧ s.enterQuiescing.chc = s.chc ∧ s.enterQuiescing.tru = s.tru
      ∧ s.enterQuiescing.dls = s.dls ∧ s.enterQuiescing.pending = s.pending ∧ s.enterQuiescing.counted = s.counted
      ∧ s.enterQuiescing.draws = s.draws ∧ s.enterQuiescing.exc.walk = s.exc.walk
      ∧ s.enterQuiescing.mpt.seq = s.mpt.seq := by
  refine ⟨?_, ?_, ?_, ?_, ?_, ?_, ?_, ?_, ?_, ?_, ?_, ?_⟩ <;> (unfold State.enterQuiescing; simp)

/-! Of Machine/Timebase.lean. -/

@[simp] theorem State.applyRecord_frame (s : State) (c : Chan) (advanced : Bool) (k : Nat) :
    (s.applyRecord c advanced k).pins = s.pins ∧ (s.applyRecord c advanced k).mod = s.mod
      ∧ (s.applyRecord c advanced k).link = s.link ∧ (s.applyRecord c advanced k).chc = s.chc
      ∧ (s.applyRecord c advanced k).dls = s.dls ∧ (s.applyRecord c advanced k).pending = s.pending
      ∧ (s.applyRecord c advanced k).counted = s.counted ∧ (s.applyRecord c advanced k).draws = s.draws
      ∧ (s.applyRecord c advanced k).crw.held = s.crw.held
      ∧ (s.applyRecord c advanced k).crw.softHold = s.crw.softHold
      ∧ (s.applyRecord c advanced k).crw.clock = s.crw.clock ∧ (s.applyRecord c advanced k).crw.straps = s.crw.straps
      ∧ (s.applyRecord c advanced k).crw.base = s.crw.base ∧ (s.applyRecord c advanced k).exc.state = s.exc.state
      ∧ (s.applyRecord c advanced k).exc.walk = s.exc.walk ∧ (s.applyRecord c advanced k).tru.xt = s.tru.xt
      ∧ (s.applyRecord c advanced k).mpt.seq = s.mpt.seq := by
  refine ⟨?_, ?_, ?_, ?_, ?_, ?_, ?_, ?_, ?_, ?_, ?_, ?_, ?_, ?_, ?_, ?_, ?_⟩ <;> (unfold State.applyRecord; dsimp only; (repeat' split) <;> simp)

@[simp] theorem State.countBoundary_frame (s : State) :
    s.countBoundary.pins = s.pins ∧ s.countBoundary.crw = s.crw ∧ s.countBoundary.conv = s.conv
      ∧ s.countBoundary.link = s.link ∧ s.countBoundary.lpe = s.lpe ∧ s.countBoundary.chc = s.chc
      ∧ s.countBoundary.tru = s.tru ∧ s.countBoundary.dls = s.dls ∧ s.countBoundary.exc = s.exc
      ∧ s.countBoundary.mpt = s.mpt ∧ s.countBoundary.ch = s.ch ∧ s.countBoundary.pending = s.pending
      ∧ s.countBoundary.counted = s.counted ∧ s.countBoundary.draws = s.draws ∧ s.countBoundary.mod.p = s.mod.p
      ∧ s.countBoundary.mod.tauRef = s.mod.tauRef ∧ s.countBoundary.mod.running = s.mod.running := by
  refine ⟨?_, ?_, ?_, ?_, ?_, ?_, ?_, ?_, ?_, ?_, ?_, ?_, ?_, ?_, ?_, ?_, ?_⟩ <;> (unfold State.countBoundary; simp)

@[simp] theorem State.restartCarriers_frame (s : State) (x : CarrierRec) :
    (s.restartCarriers x).pins = s.pins ∧ (s.restartCarriers x).crw = s.crw ∧ (s.restartCarriers x).link = s.link
      ∧ (s.restartCarriers x).chc = s.chc ∧ (s.restartCarriers x).tru = s.tru ∧ (s.restartCarriers x).dls = s.dls
      ∧ (s.restartCarriers x).exc = s.exc ∧ (s.restartCarriers x).mpt = s.mpt
      ∧ (s.restartCarriers x).pending = s.pending ∧ (s.restartCarriers x).counted = s.counted
      ∧ (s.restartCarriers x).draws = s.draws ∧ (s.restartCarriers x).mod.s = s.mod.s
      ∧ (s.restartCarriers x).mod.running = s.mod.running := by
  refine ⟨?_, ?_, ?_, ?_, ?_, ?_, ?_, ?_, ?_, ?_, ?_, ?_, ?_⟩ <;> (unfold State.restartCarriers; simp)

@[simp] theorem State.swapChannel_frame (s : State) (c : Chan) :
    (s.swapChannel c).pins = s.pins ∧ (s.swapChannel c).crw = s.crw ∧ (s.swapChannel c).mod = s.mod
      ∧ (s.swapChannel c).conv = s.conv ∧ (s.swapChannel c).link = s.link ∧ (s.swapChannel c).lpe = s.lpe
      ∧ (s.swapChannel c).chc = s.chc ∧ (s.swapChannel c).tru = s.tru ∧ (s.swapChannel c).dls = s.dls
      ∧ (s.swapChannel c).mpt = s.mpt ∧ (s.swapChannel c).pending = s.pending ∧ (s.swapChannel c).counted = s.counted
      ∧ (s.swapChannel c).draws = s.draws ∧ (s.swapChannel c).exc.state = s.exc.state
      ∧ (s.swapChannel c).exc.walk = s.exc.walk := by
  refine ⟨?_, ?_, ?_, ?_, ?_, ?_, ?_, ?_, ?_, ?_, ?_, ?_, ?_, ?_, ?_⟩ <;> (unfold State.swapChannel; simp)

@[simp] theorem State.swapTable_frame (s : State) (i : Quad) :
    (s.swapTable i).pins = s.pins ∧ (s.swapTable i).crw = s.crw ∧ (s.swapTable i).mod = s.mod
      ∧ (s.swapTable i).conv = s.conv ∧ (s.swapTable i).link = s.link ∧ (s.swapTable i).lpe = s.lpe
      ∧ (s.swapTable i).tru = s.tru ∧ (s.swapTable i).dls = s.dls ∧ (s.swapTable i).mpt = s.mpt
      ∧ (s.swapTable i).ch = s.ch ∧ (s.swapTable i).pending = s.pending ∧ (s.swapTable i).counted = s.counted
      ∧ (s.swapTable i).draws = s.draws ∧ (s.swapTable i).chc.pairs = s.chc.pairs
      ∧ (s.swapTable i).exc.state = s.exc.state ∧ (s.swapTable i).exc.walk = s.exc.walk := by
  refine ⟨?_, ?_, ?_, ?_, ?_, ?_, ?_, ?_, ?_, ?_, ?_, ?_, ?_, ?_, ?_, ?_⟩ <;> (unfold State.swapTable; dsimp only; (repeat' split) <;> simp)

@[simp] theorem State.swapCarrier_frame (s : State) :
    s.swapCarrier.pins = s.pins ∧ s.swapCarrier.crw = s.crw ∧ s.swapCarrier.link = s.link ∧ s.swapCarrier.tru = s.tru
      ∧ s.swapCarrier.dls = s.dls ∧ s.swapCarrier.mpt = s.mpt ∧ s.swapCarrier.pending = s.pending
      ∧ s.swapCarrier.counted = s.counted ∧ s.swapCarrier.draws = s.draws ∧ s.swapCarrier.chc.pairs = s.chc.pairs
      ∧ s.swapCarrier.mod.s = s.mod.s ∧ s.swapCarrier.mod.running = s.mod.running
      ∧ s.swapCarrier.exc.state = s.exc.state ∧ s.swapCarrier.exc.walk = s.exc.walk := by
  refine ⟨?_, ?_, ?_, ?_, ?_, ?_, ?_, ?_, ?_, ?_, ?_, ?_, ?_, ?_⟩ <;> (unfold State.swapCarrier; (repeat' split) <;> simp)

@[simp] theorem State.swapDcLink_frame (s : State) :
    s.swapDcLink.pins = s.pins ∧ s.swapDcLink.crw = s.crw ∧ s.swapDcLink.mod = s.mod ∧ s.swapDcLink.conv = s.conv
      ∧ s.swapDcLink.link = s.link ∧ s.swapDcLink.lpe = s.lpe ∧ s.swapDcLink.tru = s.tru ∧ s.swapDcLink.mpt = s.mpt
      ∧ s.swapDcLink.ch = s.ch ∧ s.swapDcLink.pending = s.pending ∧ s.swapDcLink.counted = s.counted
      ∧ s.swapDcLink.draws = s.draws ∧ s.swapDcLink.chc.pairs = s.chc.pairs ∧ s.swapDcLink.exc.state = s.exc.state
      ∧ s.swapDcLink.exc.walk = s.exc.walk := by
  refine ⟨?_, ?_, ?_, ?_, ?_, ?_, ?_, ?_, ?_, ?_, ?_, ?_, ?_, ?_, ?_⟩ <;> (unfold State.swapDcLink; (repeat' split) <;> simp)

@[simp] theorem State.swapXt_frame (s : State) :
    s.swapXt.pins = s.pins ∧ s.swapXt.mod = s.mod ∧ s.swapXt.link = s.link ∧ s.swapXt.dls = s.dls
      ∧ s.swapXt.pending = s.pending ∧ s.swapXt.counted = s.counted ∧ s.swapXt.crw.held = s.crw.held
      ∧ s.swapXt.crw.softHold = s.crw.softHold ∧ s.swapXt.crw.clock = s.crw.clock ∧ s.swapXt.crw.straps = s.crw.straps
      ∧ s.swapXt.crw.base = s.crw.base ∧ s.swapXt.chc.pairs = s.chc.pairs ∧ s.swapXt.exc.state = s.exc.state
      ∧ s.swapXt.exc.walk = s.exc.walk ∧ s.swapXt.mpt.seq = s.mpt.seq := by
  refine ⟨?_, ?_, ?_, ?_, ?_, ?_, ?_, ?_, ?_, ?_, ?_, ?_, ?_, ?_, ?_⟩ <;> (unfold State.swapXt; (repeat' split) <;> simp)

@[simp] theorem State.beginInterp_frame (applied : Chan → Option Entry) (s : State) (m : Chan) :
    (State.beginInterp applied s m).pins = s.pins ∧ (State.beginInterp applied s m).crw = s.crw
      ∧ (State.beginInterp applied s m).mod = s.mod ∧ (State.beginInterp applied s m).conv = s.conv
      ∧ (State.beginInterp applied s m).link = s.link ∧ (State.beginInterp applied s m).lpe = s.lpe
      ∧ (State.beginInterp applied s m).chc = s.chc ∧ (State.beginInterp applied s m).tru = s.tru
      ∧ (State.beginInterp applied s m).dls = s.dls ∧ (State.beginInterp applied s m).exc = s.exc
      ∧ (State.beginInterp applied s m).mpt = s.mpt ∧ (State.beginInterp applied s m).pending = s.pending
      ∧ (State.beginInterp applied s m).counted = s.counted ∧ (State.beginInterp applied s m).draws = s.draws := by
  refine ⟨?_, ?_, ?_, ?_, ?_, ?_, ?_, ?_, ?_, ?_, ?_, ?_, ?_, ?_⟩ <;> (unfold State.beginInterp; simp)

@[simp] theorem State.enterRun_frame (applied : Chan → Option Entry) (s : State) (c : Chan) :
    (State.enterRun applied s c).pins = s.pins ∧ (State.enterRun applied s c).mod = s.mod
      ∧ (State.enterRun applied s c).link = s.link ∧ (State.enterRun applied s c).chc = s.chc
      ∧ (State.enterRun applied s c).dls = s.dls ∧ (State.enterRun applied s c).pending = s.pending
      ∧ (State.enterRun applied s c).counted = s.counted ∧ (State.enterRun applied s c).draws = s.draws
      ∧ (State.enterRun applied s c).crw.held = s.crw.held
      ∧ (State.enterRun applied s c).crw.softHold = s.crw.softHold
      ∧ (State.enterRun applied s c).crw.clock = s.crw.clock ∧ (State.enterRun applied s c).crw.straps = s.crw.straps
      ∧ (State.enterRun applied s c).crw.base = s.crw.base ∧ (State.enterRun applied s c).exc.state = s.exc.state
      ∧ (State.enterRun applied s c).exc.walk = s.exc.walk ∧ (State.enterRun applied s c).tru.xt = s.tru.xt
      ∧ (State.enterRun applied s c).mpt.seq = s.mpt.seq := by
  refine ⟨?_, ?_, ?_, ?_, ?_, ?_, ?_, ?_, ?_, ?_, ?_, ?_, ?_, ?_, ?_, ?_, ?_⟩ <;> (unfold State.enterRun; dsimp only; (repeat' split) <;> simp)

@[simp] theorem State.chcBoundary_frame (applied : Chan → Option Entry) (s : State) :
    (State.chcBoundary applied s).pins = s.pins ∧ (State.chcBoundary applied s).link = s.link
      ∧ (State.chcBoundary applied s).pending = s.pending ∧ (State.chcBoundary applied s).counted = s.counted
      ∧ (State.chcBoundary applied s).crw.held = s.crw.held
      ∧ (State.chcBoundary applied s).crw.softHold = s.crw.softHold
      ∧ (State.chcBoundary applied s).crw.clock = s.crw.clock
      ∧ (State.chcBoundary applied s).crw.straps = s.crw.straps ∧ (State.chcBoundary applied s).crw.base = s.crw.base
      ∧ (State.chcBoundary applied s).chc.pairs = s.chc.pairs ∧ (State.chcBoundary applied s).mod.s = s.mod.s
      ∧ (State.chcBoundary applied s).mod.running = s.mod.running
      ∧ (State.chcBoundary applied s).exc.state = s.exc.state ∧ (State.chcBoundary applied s).exc.walk = s.exc.walk
      ∧ (State.chcBoundary applied s).mpt.seq = s.mpt.seq := by
  refine ⟨?_, ?_, ?_, ?_, ?_, ?_, ?_, ?_, ?_, ?_, ?_, ?_, ?_, ?_, ?_⟩ <;> (unfold State.chcBoundary; simp)

@[simp] theorem State.settleEntries_frame (s : State) :
    s.settleEntries.pins = s.pins ∧ s.settleEntries.crw = s.crw ∧ s.settleEntries.mod = s.mod
      ∧ s.settleEntries.conv = s.conv ∧ s.settleEntries.link = s.link ∧ s.settleEntries.lpe = s.lpe
      ∧ s.settleEntries.chc = s.chc ∧ s.settleEntries.tru = s.tru ∧ s.settleEntries.dls = s.dls
      ∧ s.settleEntries.mpt = s.mpt ∧ s.settleEntries.pending = s.pending ∧ s.settleEntries.counted = s.counted
      ∧ s.settleEntries.draws = s.draws ∧ s.settleEntries.exc.state = s.exc.state
      ∧ s.settleEntries.exc.slots = s.exc.slots ∧ s.settleEntries.exc.walk = s.exc.walk := by
  refine ⟨?_, ?_, ?_, ?_, ?_, ?_, ?_, ?_, ?_, ?_, ?_, ?_, ?_, ?_, ?_, ?_⟩ <;> (unfold State.settleEntries; simp)

@[simp] theorem State.demandLosses_frame (s : State) :
    s.demandLosses.pins = s.pins ∧ s.demandLosses.crw = s.crw ∧ s.demandLosses.mod = s.mod
      ∧ s.demandLosses.link = s.link ∧ s.demandLosses.chc = s.chc ∧ s.demandLosses.tru = s.tru
      ∧ s.demandLosses.dls = s.dls ∧ s.demandLosses.exc = s.exc ∧ s.demandLosses.mpt = s.mpt
      ∧ s.demandLosses.pending = s.pending ∧ s.demandLosses.counted = s.counted ∧ s.demandLosses.draws = s.draws := by
  refine ⟨?_, ?_, ?_, ?_, ?_, ?_, ?_, ?_, ?_, ?_, ?_, ?_⟩ <;> (unfold State.demandLosses; simp)

@[simp] theorem State.excEntries_frame (s : State) :
    s.excEntries.pins = s.pins ∧ s.excEntries.mod = s.mod ∧ s.excEntries.link = s.link ∧ s.excEntries.chc = s.chc
      ∧ s.excEntries.tru = s.tru ∧ s.excEntries.dls = s.dls ∧ s.excEntries.mpt = s.mpt
      ∧ s.excEntries.pending = s.pending ∧ s.excEntries.counted = s.counted ∧ s.excEntries.draws = s.draws
      ∧ s.excEntries.crw.held = s.crw.held ∧ s.excEntries.crw.softHold = s.crw.softHold
      ∧ s.excEntries.crw.clock = s.crw.clock ∧ s.excEntries.crw.straps = s.crw.straps
      ∧ s.excEntries.crw.base = s.crw.base ∧ s.excEntries.exc.state = s.exc.state
      ∧ s.excEntries.exc.slots = s.exc.slots ∧ s.excEntries.exc.walk = s.exc.walk := by
  refine ⟨?_, ?_, ?_, ?_, ?_, ?_, ?_, ?_, ?_, ?_, ?_, ?_, ?_, ?_, ?_, ?_, ?_, ?_⟩ <;> (unfold State.excEntries; (repeat' split) <;> simp)

@[simp] theorem State.applyTaken_frame (s : State) (c : Chan) :
    (s.applyTaken c).pins = s.pins ∧ (s.applyTaken c).mod = s.mod ∧ (s.applyTaken c).link = s.link
      ∧ (s.applyTaken c).chc = s.chc ∧ (s.applyTaken c).dls = s.dls ∧ (s.applyTaken c).pending = s.pending
      ∧ (s.applyTaken c).counted = s.counted ∧ (s.applyTaken c).draws = s.draws
      ∧ (s.applyTaken c).crw.held = s.crw.held ∧ (s.applyTaken c).crw.softHold = s.crw.softHold
      ∧ (s.applyTaken c).crw.clock = s.crw.clock ∧ (s.applyTaken c).crw.straps = s.crw.straps
      ∧ (s.applyTaken c).crw.base = s.crw.base ∧ (s.applyTaken c).exc.state = s.exc.state
      ∧ (s.applyTaken c).exc.walk = s.exc.walk ∧ (s.applyTaken c).tru.xt = s.tru.xt
      ∧ (s.applyTaken c).mpt.seq = s.mpt.seq := by
  refine ⟨?_, ?_, ?_, ?_, ?_, ?_, ?_, ?_, ?_, ?_, ?_, ?_, ?_, ?_, ?_, ?_, ?_⟩ <;> (unfold State.applyTaken; simp)

@[simp] theorem State.startWalk_frame (s : State) :
    s.startWalk.pins = s.pins ∧ s.startWalk.crw = s.crw ∧ s.startWalk.mod = s.mod ∧ s.startWalk.conv = s.conv
      ∧ s.startWalk.link = s.link ∧ s.startWalk.lpe = s.lpe ∧ s.startWalk.chc = s.chc ∧ s.startWalk.tru = s.tru
      ∧ s.startWalk.dls = s.dls ∧ s.startWalk.mpt = s.mpt ∧ s.startWalk.ch = s.ch ∧ s.startWalk.pending = s.pending
      ∧ s.startWalk.counted = s.counted ∧ s.startWalk.draws = s.draws ∧ s.startWalk.exc.state = s.exc.state
      ∧ s.startWalk.exc.slots = s.exc.slots := by
  refine ⟨?_, ?_, ?_, ?_, ?_, ?_, ?_, ?_, ?_, ?_, ?_, ?_, ?_, ?_, ?_, ?_⟩ <;> (unfold State.startWalk; (repeat' split) <;> simp)

@[simp] theorem State.handStatistics_frame (s : State) :
    s.handStatistics.pins = s.pins ∧ s.handStatistics.crw = s.crw ∧ s.handStatistics.mod = s.mod
      ∧ s.handStatistics.conv = s.conv ∧ s.handStatistics.lpe = s.lpe ∧ s.handStatistics.chc = s.chc
      ∧ s.handStatistics.tru = s.tru ∧ s.handStatistics.dls = s.dls ∧ s.handStatistics.exc = s.exc
      ∧ s.handStatistics.mpt = s.mpt ∧ s.handStatistics.pending = s.pending
      ∧ s.handStatistics.counted = s.counted ∧ s.handStatistics.draws = s.draws
      ∧ s.handStatistics.link.pos = s.link.pos ∧ s.handStatistics.link.due = s.link.due
      ∧ s.handStatistics.link.udc = s.link.udc ∧ s.handStatistics.link.r = s.link.r := by
  refine ⟨?_, ?_, ?_, ?_, ?_, ?_, ?_, ?_, ?_, ?_, ?_, ?_, ?_, ?_, ?_, ?_, ?_⟩ <;> (rfl)

@[simp] theorem State.excBoundary_frame (taken : List Chan) (final : Bool) (s : State) :
    (State.excBoundary taken final s).pins = s.pins ∧ (State.excBoundary taken final s).mod = s.mod
      ∧ (State.excBoundary taken final s).link.udc = s.link.udc ∧ (State.excBoundary taken final s).chc = s.chc
      ∧ (State.excBoundary taken final s).dls = s.dls ∧ (State.excBoundary taken final s).pending = s.pending
      ∧ (State.excBoundary taken final s).counted = s.counted ∧ (State.excBoundary taken final s).draws = s.draws
      ∧ (State.excBoundary taken final s).crw.held = s.crw.held
      ∧ (State.excBoundary taken final s).crw.softHold = s.crw.softHold
      ∧ (State.excBoundary taken final s).crw.clock = s.crw.clock
      ∧ (State.excBoundary taken final s).crw.straps = s.crw.straps
      ∧ (State.excBoundary taken final s).crw.base = s.crw.base
      ∧ (State.excBoundary taken final s).exc.state = s.exc.state
      ∧ (State.excBoundary taken final s).tru.xt = s.tru.xt ∧ (State.excBoundary taken final s).link.r = s.link.r
      ∧ (State.excBoundary taken final s).link.pos = s.link.pos ∧ (State.excBoundary taken final s).link.due = s.link.due := by
  refine ⟨?_, ?_, ?_, ?_, ?_, ?_, ?_, ?_, ?_, ?_, ?_, ?_, ?_, ?_, ?_, ?_, ?_, ?_⟩ <;> (unfold State.excBoundary; (repeat' split) <;> simp)

@[simp] theorem State.lateFetch_frame (s : State) :
    s.lateFetch.pins = s.pins ∧ s.lateFetch.crw = s.crw ∧ s.lateFetch.mod = s.mod ∧ s.lateFetch.conv = s.conv
      ∧ s.lateFetch.link = s.link ∧ s.lateFetch.lpe = s.lpe ∧ s.lateFetch.chc = s.chc ∧ s.lateFetch.tru = s.tru
      ∧ s.lateFetch.dls = s.dls ∧ s.lateFetch.ch = s.ch ∧ s.lateFetch.pending = s.pending
      ∧ s.lateFetch.counted = s.counted ∧ s.lateFetch.draws = s.draws ∧ s.lateFetch.exc.state = s.exc.state
      ∧ s.lateFetch.exc.slots = s.exc.slots ∧ s.lateFetch.exc.walk = s.exc.walk ∧ s.lateFetch.mpt.seq = s.mpt.seq := by
  refine ⟨?_, ?_, ?_, ?_, ?_, ?_, ?_, ?_, ?_, ?_, ?_, ?_, ?_, ?_, ?_, ?_, ?_⟩ <;> (unfold State.lateFetch; (repeat' split) <;> simp)

@[simp] theorem State.newCycles_frame (taken : List Chan) (s : State) :
    (State.newCycles taken s).pins = s.pins ∧ (State.newCycles taken s).crw = s.crw
      ∧ (State.newCycles taken s).mod = s.mod ∧ (State.newCycles taken s).conv = s.conv
      ∧ (State.newCycles taken s).lpe = s.lpe ∧ (State.newCycles taken s).chc = s.chc
      ∧ (State.newCycles taken s).tru = s.tru ∧ (State.newCycles taken s).dls = s.dls
      ∧ (State.newCycles taken s).exc = s.exc ∧ (State.newCycles taken s).mpt = s.mpt
      ∧ (State.newCycles taken s).pending = s.pending ∧ (State.newCycles taken s).counted = s.counted
      ∧ (State.newCycles taken s).draws = s.draws ∧ (State.newCycles taken s).link = s.link := by
  refine ⟨?_, ?_, ?_, ?_, ?_, ?_, ?_, ?_, ?_, ?_, ?_, ?_, ?_, ?_⟩ <;> (unfold State.newCycles; simp)

@[simp] theorem State.boundary_frame (chcFirst : Bool) (s : State) :
    (State.boundary chcFirst s).pins = s.pins ∧ (State.boundary chcFirst s).pending = s.pending
      ∧ (State.boundary chcFirst s).counted = s.counted ∧ (State.boundary chcFirst s).crw.held = s.crw.held
      ∧ (State.boundary chcFirst s).crw.softHold = s.crw.softHold
      ∧ (State.boundary chcFirst s).crw.clock = s.crw.clock ∧ (State.boundary chcFirst s).crw.straps = s.crw.straps
      ∧ (State.boundary chcFirst s).crw.base = s.crw.base ∧ (State.boundary chcFirst s).chc.pairs = s.chc.pairs
      ∧ (State.boundary chcFirst s).mod.running = s.mod.running ∧ (State.boundary chcFirst s).link.udc = s.link.udc
      ∧ (State.boundary chcFirst s).exc.state = s.exc.state := by
  refine ⟨?_, ?_, ?_, ?_, ?_, ?_, ?_, ?_, ?_, ?_, ?_, ?_⟩ <;> (unfold State.boundary; (repeat' split) <;> simp)

/-! Of Machine/GateCmds.lean. -/

@[simp] theorem State.endWhenArmed_frame (s : State) (c : Chan) (kind : LifeKind) :
    (s.endWhenArmed c kind).pins = s.pins ∧ (s.endWhenArmed c kind).crw = s.crw ∧ (s.endWhenArmed c kind).mod = s.mod
      ∧ (s.endWhenArmed c kind).conv = s.conv ∧ (s.endWhenArmed c kind).link = s.link
      ∧ (s.endWhenArmed c kind).lpe = s.lpe ∧ (s.endWhenArmed c kind).chc = s.chc
      ∧ (s.endWhenArmed c kind).tru = s.tru ∧ (s.endWhenArmed c kind).dls = s.dls
      ∧ (s.endWhenArmed c kind).mpt = s.mpt ∧ (s.endWhenArmed c kind).pending = s.pending
      ∧ (s.endWhenArmed c kind).counted = s.counted ∧ (s.endWhenArmed c kind).draws = s.draws
      ∧ (s.endWhenArmed c kind).exc.state = s.exc.state ∧ (s.endWhenArmed c kind).exc.walk = s.exc.walk := by
  refine ⟨?_, ?_, ?_, ?_, ?_, ?_, ?_, ?_, ?_, ?_, ?_, ?_, ?_, ?_, ?_⟩ <;> (unfold State.endWhenArmed; (repeat' split) <;> simp)

@[simp] theorem State.settleAll_frame (s : State) :
    s.settleAll.pins = s.pins ∧ s.settleAll.crw = s.crw ∧ s.settleAll.mod = s.mod ∧ s.settleAll.conv = s.conv
      ∧ s.settleAll.link = s.link ∧ s.settleAll.lpe = s.lpe ∧ s.settleAll.chc = s.chc ∧ s.settleAll.tru = s.tru
      ∧ s.settleAll.dls = s.dls ∧ s.settleAll.exc = s.exc ∧ s.settleAll.mpt = s.mpt ∧ s.settleAll.pending = s.pending
      ∧ s.settleAll.counted = s.counted ∧ s.settleAll.draws = s.draws := by
  refine ⟨?_, ?_, ?_, ?_, ?_, ?_, ?_, ?_, ?_, ?_, ?_, ?_, ?_, ?_⟩ <;> (unfold State.settleAll; simp)

/-! Of Machine/Engine.lean. -/

@[simp] theorem State.deliver_frame (s : State) (x : Conversion) (rawA rawB : BitVec 12) :
    (s.deliver x rawA rawB).pins = s.pins ∧ (s.deliver x rawA rawB).crw = s.crw ∧ (s.deliver x rawA rawB).mod = s.mod
      ∧ (s.deliver x rawA rawB).conv = s.conv ∧ (s.deliver x rawA rawB).link = s.link
      ∧ (s.deliver x rawA rawB).chc = s.chc ∧ (s.deliver x rawA rawB).tru = s.tru
      ∧ (s.deliver x rawA rawB).dls = s.dls ∧ (s.deliver x rawA rawB).exc = s.exc
      ∧ (s.deliver x rawA rawB).mpt = s.mpt ∧ (s.deliver x rawA rawB).pending = s.pending
      ∧ (s.deliver x rawA rawB).counted = s.counted ∧ (s.deliver x rawA rawB).draws = s.draws
      ∧ (s.deliver x rawA rawB).lpe.engine = s.lpe.engine := by
  refine ⟨?_, ?_, ?_, ?_, ?_, ?_, ?_, ?_, ?_, ?_, ?_, ?_, ?_, ?_⟩ <;> (unfold State.deliver; (repeat' split) <;> simp)

@[simp] theorem State.finishCalibration_frame (s : State) (c : Chan) (sumA sumB : Nat) :
    (s.finishCalibration c sumA sumB).pins = s.pins ∧ (s.finishCalibration c sumA sumB).crw = s.crw
      ∧ (s.finishCalibration c sumA sumB).mod = s.mod ∧ (s.finishCalibration c sumA sumB).link = s.link
      ∧ (s.finishCalibration c sumA sumB).chc = s.chc ∧ (s.finishCalibration c sumA sumB).tru = s.tru
      ∧ (s.finishCalibration c sumA sumB).dls = s.dls ∧ (s.finishCalibration c sumA sumB).mpt = s.mpt
      ∧ (s.finishCalibration c sumA sumB).pending = s.pending ∧ (s.finishCalibration c sumA sumB).counted = s.counted
      ∧ (s.finishCalibration c sumA sumB).draws = s.draws ∧ (s.finishCalibration c sumA sumB).exc.state = s.exc.state
      ∧ (s.finishCalibration c sumA sumB).exc.walk = s.exc.walk := by
  refine ⟨?_, ?_, ?_, ?_, ?_, ?_, ?_, ?_, ?_, ?_, ?_, ?_, ?_⟩ <;> (unfold State.finishCalibration; dsimp only; (repeat' split) <;> simp)

@[simp] theorem State.commitCalibration_frame (s : State) (x : SampleSet) :
    (s.commitCalibration x).pins = s.pins ∧ (s.commitCalibration x).crw = s.crw ∧ (s.commitCalibration x).mod = s.mod
      ∧ (s.commitCalibration x).link = s.link ∧ (s.commitCalibration x).chc = s.chc
      ∧ (s.commitCalibration x).tru = s.tru ∧ (s.commitCalibration x).dls = s.dls
      ∧ (s.commitCalibration x).mpt = s.mpt ∧ (s.commitCalibration x).pending = s.pending
      ∧ (s.commitCalibration x).counted = s.counted ∧ (s.commitCalibration x).draws = s.draws
      ∧ (s.commitCalibration x).exc.state = s.exc.state ∧ (s.commitCalibration x).exc.walk = s.exc.walk := by
  refine ⟨?_, ?_, ?_, ?_, ?_, ?_, ?_, ?_, ?_, ?_, ?_, ?_, ?_⟩ <;> (unfold State.commitCalibration; dsimp only; (repeat' split) <;> simp)

@[simp] theorem State.record_frame (s : State) (c : Chan) (e : HistEntry) :
    (s.record c e).pins = s.pins ∧ (s.record c e).crw = s.crw ∧ (s.record c e).mod = s.mod
      ∧ (s.record c e).conv = s.conv ∧ (s.record c e).link = s.link ∧ (s.record c e).chc = s.chc
      ∧ (s.record c e).tru = s.tru ∧ (s.record c e).dls = s.dls ∧ (s.record c e).exc = s.exc
      ∧ (s.record c e).mpt = s.mpt ∧ (s.record c e).pending = s.pending ∧ (s.record c e).counted = s.counted
      ∧ (s.record c e).draws = s.draws ∧ (s.record c e).lpe.engine = s.lpe.engine
      ∧ (s.record c e).lpe.ready = s.lpe.ready := by
  refine ⟨?_, ?_, ?_, ?_, ?_, ?_, ?_, ?_, ?_, ?_, ?_, ?_, ?_, ?_, ?_⟩ <;> (unfold State.record; dsimp only; (repeat' split) <;> simp)

@[simp] theorem State.rampComplete_frame (s : State) (c : Chan) :
    (s.rampComplete c).pins = s.pins ∧ (s.rampComplete c).crw = s.crw ∧ (s.rampComplete c).mod = s.mod
      ∧ (s.rampComplete c).link = s.link ∧ (s.rampComplete c).chc = s.chc ∧ (s.rampComplete c).tru = s.tru
      ∧ (s.rampComplete c).dls = s.dls ∧ (s.rampComplete c).mpt = s.mpt ∧ (s.rampComplete c).pending = s.pending
      ∧ (s.rampComplete c).counted = s.counted ∧ (s.rampComplete c).draws = s.draws
      ∧ (s.rampComplete c).exc.state = s.exc.state ∧ (s.rampComplete c).exc.walk = s.exc.walk := by
  refine ⟨?_, ?_, ?_, ?_, ?_, ?_, ?_, ?_, ?_, ?_, ?_, ?_, ?_⟩ <;> (unfold State.rampComplete; (repeat' split) <;> simp)

@[simp] theorem State.commitFull_frame (s : State) (j : Job) :
    (s.commitFull j).pins = s.pins ∧ (s.commitFull j).crw = s.crw ∧ (s.commitFull j).mod = s.mod
      ∧ (s.commitFull j).link = s.link ∧ (s.commitFull j).chc = s.chc ∧ (s.commitFull j).tru = s.tru
      ∧ (s.commitFull j).dls = s.dls ∧ (s.commitFull j).mpt = s.mpt ∧ (s.commitFull j).pending = s.pending
      ∧ (s.commitFull j).counted = s.counted ∧ (s.commitFull j).draws = s.draws
      ∧ (s.commitFull j).exc.state = s.exc.state ∧ (s.commitFull j).exc.walk = s.exc.walk := by
  refine ⟨?_, ?_, ?_, ?_, ?_, ?_, ?_, ?_, ?_, ?_, ?_, ?_, ?_⟩ <;> (unfold State.commitFull; dsimp only; (repeat' split) <;> simp)

@[simp] theorem State.commitMeasuring_frame (s : State) (j : Job) :
    (s.commitMeasuring j).pins = s.pins ∧ (s.commitMeasuring j).crw = s.crw ∧ (s.commitMeasuring j).mod = s.mod
      ∧ (s.commitMeasuring j).conv = s.conv ∧ (s.commitMeasuring j).link = s.link ∧ (s.commitMeasuring j).chc = s.chc
      ∧ (s.commitMeasuring j).tru = s.tru ∧ (s.commitMeasuring j).dls = s.dls ∧ (s.commitMeasuring j).exc = s.exc
      ∧ (s.commitMeasuring j).mpt = s.mpt ∧ (s.commitMeasuring j).pending = s.pending
      ∧ (s.commitMeasuring j).counted = s.counted ∧ (s.commitMeasuring j).draws = s.draws
      ∧ (s.commitMeasuring j).lpe.engine = s.lpe.engine ∧ (s.commitMeasuring j).lpe.ready = s.lpe.ready := by
  refine ⟨?_, ?_, ?_, ?_, ?_, ?_, ?_, ?_, ?_, ?_, ?_, ?_, ?_, ?_, ?_⟩ <;> (unfold State.commitMeasuring; (repeat' split) <;> simp)

@[simp] theorem State.commit_frame (s : State) (j : Job) :
    (s.commit j).pins = s.pins ∧ (s.commit j).crw = s.crw ∧ (s.commit j).mod = s.mod ∧ (s.commit j).link = s.link
      ∧ (s.commit j).chc = s.chc ∧ (s.commit j).tru = s.tru ∧ (s.commit j).dls = s.dls ∧ (s.commit j).mpt = s.mpt
      ∧ (s.commit j).pending = s.pending ∧ (s.commit j).counted = s.counted ∧ (s.commit j).draws = s.draws
      ∧ (s.commit j).exc.state = s.exc.state ∧ (s.commit j).exc.walk = s.exc.walk := by
  refine ⟨?_, ?_, ?_, ?_, ?_, ?_, ?_, ?_, ?_, ?_, ?_, ?_, ?_⟩ <;> (unfold State.commit; (repeat' split) <;> simp)

@[simp] theorem State.endSoftOc_frame (s : State) (j : Job) :
    (s.endSoftOc j).pins = s.pins ∧ (s.endSoftOc j).mod = s.mod ∧ (s.endSoftOc j).link = s.link
      ∧ (s.endSoftOc j).chc = s.chc ∧ (s.endSoftOc j).dls = s.dls ∧ (s.endSoftOc j).pending = s.pending
      ∧ (s.endSoftOc j).counted = s.counted ∧ (s.endSoftOc j).draws = s.draws
      ∧ (s.endSoftOc j).crw.held = s.crw.held ∧ (s.endSoftOc j).crw.softHold = s.crw.softHold
      ∧ (s.endSoftOc j).crw.clock = s.crw.clock ∧ (s.endSoftOc j).crw.straps = s.crw.straps
      ∧ (s.endSoftOc j).crw.base = s.crw.base ∧ (s.endSoftOc j).exc.state = s.exc.state
      ∧ (s.endSoftOc j).exc.walk = s.exc.walk ∧ (s.endSoftOc j).tru.xt = s.tru.xt
      ∧ (s.endSoftOc j).mpt.seq = s.mpt.seq := by
  refine ⟨?_, ?_, ?_, ?_, ?_, ?_, ?_, ?_, ?_, ?_, ?_, ?_, ?_, ?_, ?_, ?_, ?_⟩ <;> simp [State.endSoftOc]

@[simp] theorem State.concludeJob_frame (s : State) (j : Job) :
    (s.concludeJob j).pins = s.pins ∧ (s.concludeJob j).mod = s.mod ∧ (s.concludeJob j).link = s.link
      ∧ (s.concludeJob j).chc = s.chc ∧ (s.concludeJob j).dls = s.dls ∧ (s.concludeJob j).pending = s.pending
      ∧ (s.concludeJob j).counted = s.counted ∧ (s.concludeJob j).draws = s.draws
      ∧ (s.concludeJob j).crw.held = s.crw.held ∧ (s.concludeJob j).crw.softHold = s.crw.softHold
      ∧ (s.concludeJob j).crw.clock = s.crw.clock ∧ (s.concludeJob j).crw.straps = s.crw.straps
      ∧ (s.concludeJob j).crw.base = s.crw.base ∧ (s.concludeJob j).exc.state = s.exc.state
      ∧ (s.concludeJob j).exc.walk = s.exc.walk ∧ (s.concludeJob j).tru.xt = s.tru.xt
      ∧ (s.concludeJob j).mpt.seq = s.mpt.seq := by
  refine ⟨?_, ?_, ?_, ?_, ?_, ?_, ?_, ?_, ?_, ?_, ?_, ?_, ?_, ?_, ?_, ?_, ?_⟩ <;> (unfold State.concludeJob; (repeat' split) <;> simp)

/-! Of Machine/Protect.lean. -/

@[simp] theorem State.setComparator_frame (s : State) (c : Chan) (phase : Leg) (active : Bool) :
    (s.setComparator c phase active).pins = s.pins ∧ (s.setComparator c phase active).crw = s.crw
      ∧ (s.setComparator c phase active).mod = s.mod ∧ (s.setComparator c phase active).conv = s.conv
      ∧ (s.setComparator c phase active).link = s.link ∧ (s.setComparator c phase active).lpe = s.lpe
      ∧ (s.setComparator c phase active).chc = s.chc ∧ (s.setComparator c phase active).tru = s.tru
      ∧ (s.setComparator c phase active).dls = s.dls ∧ (s.setComparator c phase active).exc = s.exc
      ∧ (s.setComparator c phase active).mpt = s.mpt ∧ (s.setComparator c phase active).pending = s.pending
      ∧ (s.setComparator c phase active).counted = s.counted ∧ (s.setComparator c phase active).draws = s.draws := by
  refine ⟨?_, ?_, ?_, ?_, ?_, ?_, ?_, ?_, ?_, ?_, ?_, ?_, ?_, ?_⟩ <;> (unfold State.setComparator; simp)

@[simp] theorem State.setGateFault_frame (s : State) (c : Chan) (low : Bool) :
    (s.setGateFault c low).pins = s.pins ∧ (s.setGateFault c low).crw = s.crw ∧ (s.setGateFault c low).mod = s.mod
      ∧ (s.setGateFault c low).conv = s.conv ∧ (s.setGateFault c low).link = s.link
      ∧ (s.setGateFault c low).lpe = s.lpe ∧ (s.setGateFault c low).chc = s.chc ∧ (s.setGateFault c low).tru = s.tru
      ∧ (s.setGateFault c low).dls = s.dls ∧ (s.setGateFault c low).exc = s.exc ∧ (s.setGateFault c low).mpt = s.mpt
      ∧ (s.setGateFault c low).pending = s.pending ∧ (s.setGateFault c low).counted = s.counted
      ∧ (s.setGateFault c low).draws = s.draws := by
  refine ⟨?_, ?_, ?_, ?_, ?_, ?_, ?_, ?_, ?_, ?_, ?_, ?_, ?_, ?_⟩ <;> (unfold State.setGateFault; simp)

/-! Of Machine/PortCmds.lean. -/

@[simp] theorem State.takeBus_frame (s : State) :
    s.takeBus.pins = s.pins ∧ s.takeBus.crw = s.crw ∧ s.takeBus.mod = s.mod ∧ s.takeBus.conv = s.conv
      ∧ s.takeBus.link = s.link ∧ s.takeBus.lpe = s.lpe ∧ s.takeBus.chc = s.chc ∧ s.takeBus.dls = s.dls
      ∧ s.takeBus.ch = s.ch ∧ s.takeBus.pending = s.pending ∧ s.takeBus.counted = s.counted
      ∧ s.takeBus.draws = s.draws ∧ s.takeBus.exc.state = s.exc.state ∧ s.takeBus.exc.walk = s.exc.walk
      ∧ s.takeBus.tru.xt = s.tru.xt := by
  refine ⟨?_, ?_, ?_, ?_, ?_, ?_, ?_, ?_, ?_, ?_, ?_, ?_, ?_, ?_, ?_⟩ <;> (unfold State.takeBus; (repeat' split) <;> simp)

@[simp] theorem State.wordDone_frame (s : State) (x : Seq) (data : Word) (par : BitVec 4) :
    (s.wordDone x data par).pins = s.pins ∧ (s.wordDone x data par).mod = s.mod
      ∧ (s.wordDone x data par).conv = s.conv ∧ (s.wordDone x data par).link = s.link
      ∧ (s.wordDone x data par).lpe = s.lpe ∧ (s.wordDone x data par).chc = s.chc
      ∧ (s.wordDone x data par).tru = s.tru ∧ (s.wordDone x data par).dls = s.dls
      ∧ (s.wordDone x data par).exc = s.exc ∧ (s.wordDone x data par).ch = s.ch
      ∧ (s.wordDone x data par).pending = s.pending ∧ (s.wordDone x data par).counted = s.counted
      ∧ (s.wordDone x data par).draws = s.draws ∧ (s.wordDone x data par).crw.held = s.crw.held
      ∧ (s.wordDone x data par).crw.softHold = s.crw.softHold ∧ (s.wordDone x data par).crw.clock = s.crw.clock
      ∧ (s.wordDone x data par).crw.straps = s.crw.straps ∧ (s.wordDone x data par).crw.base = s.crw.base := by
  refine ⟨?_, ?_, ?_, ?_, ?_, ?_, ?_, ?_, ?_, ?_, ?_, ?_, ?_, ?_, ?_, ?_, ?_, ?_⟩ <;> (unfold State.wordDone; dsimp only; (repeat' split) <;> simp)

@[simp] theorem State.backOff_frame (s : State) (x : Seq) :
    (s.backOff x).pins = s.pins ∧ (s.backOff x).mod = s.mod ∧ (s.backOff x).conv = s.conv
      ∧ (s.backOff x).link = s.link ∧ (s.backOff x).lpe = s.lpe ∧ (s.backOff x).chc = s.chc
      ∧ (s.backOff x).tru = s.tru ∧ (s.backOff x).dls = s.dls ∧ (s.backOff x).exc = s.exc ∧ (s.backOff x).ch = s.ch
      ∧ (s.backOff x).pending = s.pending ∧ (s.backOff x).counted = s.counted ∧ (s.backOff x).draws = s.draws
      ∧ (s.backOff x).crw.held = s.crw.held ∧ (s.backOff x).crw.softHold = s.crw.softHold
      ∧ (s.backOff x).crw.clock = s.crw.clock ∧ (s.backOff x).crw.straps = s.crw.straps
      ∧ (s.backOff x).crw.base = s.crw.base := by
  refine ⟨?_, ?_, ?_, ?_, ?_, ?_, ?_, ?_, ?_, ?_, ?_, ?_, ?_, ?_, ?_, ?_, ?_, ?_⟩ <;> (unfold State.backOff; (repeat' split) <;> simp)

@[simp] theorem Mpt.clock_frame (m : Mpt) (x : Seq) (grant : Bool) :
    (m.clock x grant).offClock = m.offClock ∧ (m.clock x grant).pFetch = m.pFetch
      ∧ (m.clock x grant).pReport = m.pReport ∧ (m.clock x grant).pDump = m.pDump
      ∧ (m.clock x grant).pWalk = m.pWalk ∧ (m.clock x grant).pCapture = m.pCapture
      ∧ (m.clock x grant).ended = m.ended ∧ (m.clock x grant).fails = m.fails
      ∧ (m.clock x grant).clockOn = m.clockOn ∧ (m.clock x grant).phase = m.phase
      ∧ (m.clock x grant).edge = m.edge := by
  refine ⟨?_, ?_, ?_, ?_, ?_, ?_, ?_, ?_, ?_, ?_, ?_⟩ <;> (unfold Mpt.clock; (repeat' split) <;> rfl)

@[simp] theorem State.settleBus_frame (s : State) :
    s.settleBus.pins = s.pins ∧ s.settleBus.crw = s.crw ∧ s.settleBus.mod = s.mod ∧ s.settleBus.conv = s.conv
      ∧ s.settleBus.link = s.link ∧ s.settleBus.lpe = s.lpe ∧ s.settleBus.chc = s.chc ∧ s.settleBus.tru = s.tru
      ∧ s.settleBus.dls = s.dls ∧ s.settleBus.exc = s.exc ∧ s.settleBus.ch = s.ch
      ∧ s.settleBus.pending = s.pending ∧ s.settleBus.counted = s.counted ∧ s.settleBus.draws = s.draws
      ∧ s.settleBus.mpt.fails = s.mpt.fails ∧ s.settleBus.mpt.ended = s.mpt.ended
      ∧ s.settleBus.mpt.clockOn = s.mpt.clockOn ∧ s.settleBus.mpt.phase = s.mpt.phase := by
  refine ⟨?_, ?_, ?_, ?_, ?_, ?_, ?_, ?_, ?_, ?_, ?_, ?_, ?_, ?_, ?_, ?_, ?_, ?_⟩ <;> (unfold State.settleBus; (repeat' split) <;> rfl)

@[simp] theorem State.actAtEdge_frame (s : State) :
    s.actAtEdge.pins = s.pins ∧ s.actAtEdge.crw = s.crw ∧ s.actAtEdge.mod = s.mod ∧ s.actAtEdge.conv = s.conv
      ∧ s.actAtEdge.link = s.link ∧ s.actAtEdge.lpe = s.lpe ∧ s.actAtEdge.chc = s.chc ∧ s.actAtEdge.tru = s.tru
      ∧ s.actAtEdge.dls = s.dls ∧ s.actAtEdge.exc = s.exc ∧ s.actAtEdge.ch = s.ch
      ∧ s.actAtEdge.pending = s.pending ∧ s.actAtEdge.counted = s.counted ∧ s.actAtEdge.draws = s.draws
      ∧ s.actAtEdge.mpt.fails = s.mpt.fails ∧ s.actAtEdge.mpt.ended = s.mpt.ended
      ∧ s.actAtEdge.mpt.clockOn = s.mpt.clockOn ∧ s.actAtEdge.mpt.phase = s.mpt.phase := by
  refine ⟨?_, ?_, ?_, ?_, ?_, ?_, ?_, ?_, ?_, ?_, ?_, ?_, ?_, ?_, ?_, ?_, ?_, ?_⟩ <;> (unfold State.actAtEdge; dsimp only; split <;> simp [State.modMpt])

/-! Of Machine/SeqEnds.lean. -/

@[simp] theorem State.reachEnd_frame (s : State) (kind : SeqKind) (out : PortOutcome) :
    (s.reachEnd kind out).pins = s.pins ∧ (s.reachEnd kind out).mod = s.mod ∧ (s.reachEnd kind out).conv = s.conv
      ∧ (s.reachEnd kind out).link = s.link ∧ (s.reachEnd kind out).lpe = s.lpe ∧ (s.reachEnd kind out).chc = s.chc
      ∧ (s.reachEnd kind out).tru = s.tru ∧ (s.reachEnd kind out).dls = s.dls ∧ (s.reachEnd kind out).exc = s.exc
      ∧ (s.reachEnd kind out).ch = s.ch ∧ (s.reachEnd kind out).pending = s.pending
      ∧ (s.reachEnd kind out).counted = s.counted ∧ (s.reachEnd kind out).draws = s.draws
      ∧ (s.reachEnd kind out).crw.held = s.crw.held ∧ (s.reachEnd kind out).crw.softHold = s.crw.softHold
      ∧ (s.reachEnd kind out).crw.clock = s.crw.clock ∧ (s.reachEnd kind out).crw.straps = s.crw.straps
      ∧ (s.reachEnd kind out).crw.base = s.crw.base := by
  refine ⟨?_, ?_, ?_, ?_, ?_, ?_, ?_, ?_, ?_, ?_, ?_, ?_, ?_, ?_, ?_, ?_, ?_, ?_⟩ <;> (unfold State.reachEnd; (repeat' split) <;> simp)

@[simp] theorem State.endDump_frame (s : State) (out : PortOutcome) :
    (s.endDump out).pins = s.pins ∧ (s.endDump out).mod = s.mod ∧ (s.endDump out).conv = s.conv
      ∧ (s.endDump out).link = s.link ∧ (s.endDump out).lpe = s.lpe ∧ (s.endDump out).chc = s.chc
      ∧ (s.endDump out).dls = s.dls ∧ (s.endDump out).exc = s.exc ∧ (s.endDump out).ch = s.ch
      ∧ (s.endDump out).pending = s.pending ∧ (s.endDump out).counted = s.counted
      ∧ (s.endDump out).draws = s.draws ∧ (s.endDump out).tru.xt = s.tru.xt
      ∧ (s.endDump out).tru.dumpSeq = s.tru.dumpSeq ∧ (s.endDump out).crw.held = s.crw.held
      ∧ (s.endDump out).crw.softHold = s.crw.softHold ∧ (s.endDump out).crw.clock = s.crw.clock
      ∧ (s.endDump out).crw.straps = s.crw.straps ∧ (s.endDump out).crw.base = s.crw.base := by
  refine ⟨?_, ?_, ?_, ?_, ?_, ?_, ?_, ?_, ?_, ?_, ?_, ?_, ?_, ?_, ?_, ?_, ?_, ?_, ?_⟩ <;> (unfold State.endDump; dsimp only; split <;> simp)

@[simp] theorem State.failStart_frame (s : State) (r : Reason) :
    (s.failStart r).pins = s.pins ∧ (s.failStart r).mod = s.mod ∧ (s.failStart r).conv = s.conv
      ∧ (s.failStart r).link = s.link ∧ (s.failStart r).lpe = s.lpe ∧ (s.failStart r).chc = s.chc
      ∧ (s.failStart r).tru = s.tru ∧ (s.failStart r).dls = s.dls ∧ (s.failStart r).mpt = s.mpt
      ∧ (s.failStart r).ch = s.ch ∧ (s.failStart r).pending = s.pending ∧ (s.failStart r).counted = s.counted
      ∧ (s.failStart r).draws = s.draws ∧ (s.failStart r).crw.held = s.crw.held
      ∧ (s.failStart r).crw.softHold = s.crw.softHold ∧ (s.failStart r).crw.clock = s.crw.clock
      ∧ (s.failStart r).crw.straps = s.crw.straps ∧ (s.failStart r).crw.base = s.crw.base
      ∧ (s.failStart r).exc.slots = s.exc.slots ∧ (s.failStart r).exc.walk = s.exc.walk := by
  refine ⟨?_, ?_, ?_, ?_, ?_, ?_, ?_, ?_, ?_, ?_, ?_, ?_, ?_, ?_, ?_, ?_, ?_, ?_, ?_, ?_⟩ <;> (unfold State.failStart; simp)

@[simp] theorem State.succeedStart_frame (s : State) (ws : List Word) :
    (s.succeedStart ws).pins = s.pins ∧ (s.succeedStart ws).crw = s.crw ∧ (s.succeedStart ws).conv = s.conv
      ∧ (s.succeedStart ws).link = s.link ∧ (s.succeedStart ws).lpe = s.lpe ∧ (s.succeedStart ws).chc = s.chc
      ∧ (s.succeedStart ws).tru = s.tru ∧ (s.succeedStart ws).dls = s.dls ∧ (s.succeedStart ws).mpt = s.mpt
      ∧ (s.succeedStart ws).ch = s.ch ∧ (s.succeedStart ws).pending = s.pending
      ∧ (s.succeedStart ws).counted = s.counted ∧ (s.succeedStart ws).draws = s.draws
      ∧ (s.succeedStart ws).mod.p = s.mod.p ∧ (s.succeedStart ws).mod.tauRef = s.mod.tauRef
      ∧ (s.succeedStart ws).mod.s = s.mod.s ∧ (s.succeedStart ws).mod.running = s.mod.running
      ∧ (s.succeedStart ws).exc.slots = s.exc.slots ∧ (s.succeedStart ws).exc.walk = s.exc.walk := by
  refine ⟨?_, ?_, ?_, ?_, ?_, ?_, ?_, ?_, ?_, ?_, ?_, ?_, ?_, ?_, ?_, ?_, ?_, ?_, ?_⟩ <;> (unfold State.succeedStart; simp)

@[simp] theorem State.endFetch_frame (s : State) (out : PortOutcome) (ws : List Word) :
    (s.endFetch out ws).pins = s.pins ∧ (s.endFetch out ws).crw = s.crw ∧ (s.endFetch out ws).mod = s.mod
      ∧ (s.endFetch out ws).conv = s.conv ∧ (s.endFetch out ws).link = s.link ∧ (s.endFetch out ws).lpe = s.lpe
      ∧ (s.endFetch out ws).chc = s.chc ∧ (s.endFetch out ws).tru = s.tru ∧ (s.endFetch out ws).dls = s.dls
      ∧ (s.endFetch out ws).mpt = s.mpt ∧ (s.endFetch out ws).ch = s.ch ∧ (s.endFetch out ws).pending = s.pending
      ∧ (s.endFetch out ws).counted = s.counted ∧ (s.endFetch out ws).draws = s.draws
      ∧ (s.endFetch out ws).exc.state = s.exc.state ∧ (s.endFetch out ws).exc.slots = s.exc.slots
      ∧ (s.endFetch out ws).exc.walk = s.exc.walk := by
  refine ⟨?_, ?_, ?_, ?_, ?_, ?_, ?_, ?_, ?_, ?_, ?_, ?_, ?_, ?_, ?_, ?_, ?_⟩ <;> (unfold State.endFetch; (repeat' split) <;> simp)

@[simp] theorem State.countReport_frame (s : State) (out : PortOutcome) :
    (s.countReport out).pins = s.pins ∧ (s.countReport out).mod = s.mod ∧ (s.countReport out).conv = s.conv
      ∧ (s.countReport out).link = s.link ∧ (s.countReport out).lpe = s.lpe ∧ (s.countReport out).chc = s.chc
      ∧ (s.countReport out).tru = s.tru ∧ (s.countReport out).dls = s.dls ∧ (s.countReport out).mpt = s.mpt
      ∧ (s.countReport out).ch = s.ch ∧ (s.countReport out).pending = s.pending
      ∧ (s.countReport out).counted = s.counted ∧ (s.countReport out).draws = s.draws
      ∧ (s.countReport out).crw.held = s.crw.held ∧ (s.countReport out).crw.softHold = s.crw.softHold
      ∧ (s.countReport out).crw.clock = s.crw.clock ∧ (s.countReport out).crw.straps = s.crw.straps
      ∧ (s.countReport out).crw.base = s.crw.base ∧ (s.countReport out).exc.state = s.exc.state
      ∧ (s.countReport out).exc.slots = s.exc.slots ∧ (s.countReport out).exc.walk = s.exc.walk := by
  refine ⟨?_, ?_, ?_, ?_, ?_, ?_, ?_, ?_, ?_, ?_, ?_, ?_, ?_, ?_, ?_, ?_, ?_, ?_, ?_, ?_, ?_⟩ <;> (unfold State.countReport; (repeat' split) <;> simp)

@[simp] theorem State.enterQuiesced_frame (s : State) :
    s.enterQuiesced.pins = s.pins ∧ s.enterQuiesced.mod = s.mod ∧ s.enterQuiesced.conv = s.conv
      ∧ s.enterQuiesced.link = s.link ∧ s.enterQuiesced.lpe = s.lpe ∧ s.enterQuiesced.chc = s.chc
      ∧ s.enterQuiesced.tru = s.tru ∧ s.enterQuiesced.dls = s.dls ∧ s.enterQuiesced.ch = s.ch
      ∧ s.enterQuiesced.pending = s.pending ∧ s.enterQuiesced.counted = s.counted ∧ s.enterQuiesced.draws = s.draws
      ∧ s.enterQuiesced.crw.held = s.crw.held ∧ s.enterQuiesced.crw.softHold = s.crw.softHold
      ∧ s.enterQuiesced.crw.clock = s.crw.clock ∧ s.enterQuiesced.crw.straps = s.crw.straps
      ∧ s.enterQuiesced.crw.base = s.crw.base ∧ s.enterQuiesced.exc.slots = s.exc.slots
      ∧ s.enterQuiesced.exc.walk = s.exc.walk ∧ s.enterQuiesced.mpt.seq = s.mpt.seq := by
  refine ⟨?_, ?_, ?_, ?_, ?_, ?_, ?_, ?_, ?_, ?_, ?_, ?_, ?_, ?_, ?_, ?_, ?_, ?_, ?_, ?_⟩ <;> (unfold State.enterQuiesced; simp)

@[simp] theorem State.walkFailure_frame (s : State) :
    s.walkFailure.pins = s.pins ∧ s.walkFailure.mod = s.mod ∧ s.walkFailure.conv = s.conv
      ∧ s.walkFailure.link = s.link ∧ s.walkFailure.lpe = s.lpe ∧ s.walkFailure.chc = s.chc
      ∧ s.walkFailure.tru = s.tru ∧ s.walkFailure.dls = s.dls ∧ s.walkFailure.mpt = s.mpt ∧ s.walkFailure.ch = s.ch
      ∧ s.walkFailure.pending = s.pending ∧ s.walkFailure.counted = s.counted ∧ s.walkFailure.draws = s.draws
      ∧ s.walkFailure.crw.held = s.crw.held ∧ s.walkFailure.crw.softHold = s.crw.softHold
      ∧ s.walkFailure.crw.clock = s.crw.clock ∧ s.walkFailure.crw.straps = s.crw.straps
      ∧ s.walkFailure.crw.base = s.crw.base ∧ s.walkFailure.exc.state = s.exc.state
      ∧ s.walkFailure.exc.slots = s.exc.slots := by
  refine ⟨?_, ?_, ?_, ?_, ?_, ?_, ?_, ?_, ?_, ?_, ?_, ?_, ?_, ?_, ?_, ?_, ?_, ?_, ?_, ?_⟩ <;> (unfold State.walkFailure; dsimp only; (repeat' split) <;> simp)

@[simp] theorem State.countPointer_frame (s : State) (out : PortOutcome) (ptr : Word) :
    (s.countPointer out ptr).pins = s.pins ∧ (s.countPointer out ptr).mod = s.mod
      ∧ (s.countPointer out ptr).conv = s.conv
      ∧ (s.countPointer out ptr).link = s.link ∧ (s.countPointer out ptr).lpe = s.lpe
      ∧ (s.countPointer out ptr).chc = s.chc
      ∧ (s.countPointer out ptr).tru = s.tru ∧ (s.countPointer out ptr).dls = s.dls
      ∧ (s.countPointer out ptr).mpt = s.mpt ∧ (s.countPointer out ptr).ch = s.ch
      ∧ (s.countPointer out ptr).pending = s.pending ∧ (s.countPointer out ptr).counted = s.counted
      ∧ (s.countPointer out ptr).draws = s.draws
      ∧ (s.countPointer out ptr).crw.held = s.crw.held ∧ (s.countPointer out ptr).crw.softHold = s.crw.softHold
      ∧ (s.countPointer out ptr).crw.clock = s.crw.clock ∧ (s.countPointer out ptr).crw.straps = s.crw.straps
      ∧ (s.countPointer out ptr).crw.base = s.crw.base ∧ (s.countPointer out ptr).exc.state = s.exc.state
      ∧ (s.countPointer out ptr).exc.slots = s.exc.slots := by
  refine ⟨?_, ?_, ?_, ?_, ?_, ?_, ?_, ?_, ?_, ?_, ?_, ?_, ?_, ?_, ?_, ?_, ?_, ?_, ?_, ?_⟩ <;> (unfold State.countPointer; (repeat' split) <;> simp [State.clearWalkFails])

@[simp] theorem State.countHeader_frame (s : State) (out : PortOutcome) :
    (s.countHeader out).pins = s.pins ∧ (s.countHeader out).mod = s.mod ∧ (s.countHeader out).conv = s.conv
      ∧ (s.countHeader out).link = s.link ∧ (s.countHeader out).lpe = s.lpe ∧ (s.countHeader out).chc = s.chc
      ∧ (s.countHeader out).tru = s.tru ∧ (s.countHeader out).dls = s.dls ∧ (s.countHeader out).mpt = s.mpt
      ∧ (s.countHeader out).ch = s.ch
      ∧ (s.countHeader out).pending = s.pending ∧ (s.countHeader out).counted = s.counted
      ∧ (s.countHeader out).draws = s.draws
      ∧ (s.countHeader out).crw.held = s.crw.held ∧ (s.countHeader out).crw.softHold = s.crw.softHold
      ∧ (s.countHeader out).crw.clock = s.crw.clock ∧ (s.countHeader out).crw.straps = s.crw.straps
      ∧ (s.countHeader out).crw.base = s.crw.base ∧ (s.countHeader out).exc.state = s.exc.state
      ∧ (s.countHeader out).exc.slots = s.exc.slots := by
  refine ⟨?_, ?_, ?_, ?_, ?_, ?_, ?_, ?_, ?_, ?_, ?_, ?_, ?_, ?_, ?_, ?_, ?_, ?_, ?_, ?_⟩ <;> (unfold State.countHeader; (repeat' split) <;> simp [State.clearWalkFails])

@[simp] theorem State.followPointer_frame (s : State) (w : Walk) (out : PortOutcome) (ptr : Word) :
    (s.followPointer w out ptr).pins = s.pins ∧ (s.followPointer w out ptr).mod = s.mod
      ∧ (s.followPointer w out ptr).conv = s.conv ∧ (s.followPointer w out ptr).link = s.link
      ∧ (s.followPointer w out ptr).lpe = s.lpe ∧ (s.followPointer w out ptr).chc = s.chc
      ∧ (s.followPointer w out ptr).tru = s.tru ∧ (s.followPointer w out ptr).dls = s.dls
      ∧ (s.followPointer w out ptr).mpt = s.mpt ∧ (s.followPointer w out ptr).ch = s.ch
      ∧ (s.followPointer w out ptr).pending = s.pending ∧ (s.followPointer w out ptr).counted = s.counted
      ∧ (s.followPointer w out ptr).draws = s.draws ∧ (s.followPointer w out ptr).crw.held = s.crw.held
      ∧ (s.followPointer w out ptr).crw.softHold = s.crw.softHold
      ∧ (s.followPointer w out ptr).crw.clock = s.crw.clock ∧ (s.followPointer w out ptr).crw.straps = s.crw.straps
      ∧ (s.followPointer w out ptr).crw.base = s.crw.base ∧ (s.followPointer w out ptr).exc.state = s.exc.state
      ∧ (s.followPointer w out ptr).exc.slots = s.exc.slots := by
  refine ⟨?_, ?_, ?_, ?_, ?_, ?_, ?_, ?_, ?_, ?_, ?_, ?_, ?_, ?_, ?_, ?_, ?_, ?_, ?_, ?_⟩ <;> (unfold State.followPointer; (repeat' split) <;> simp)

@[simp] theorem State.claim_frame (s : State) (w : Walk) (addr w0 w2 : Word) (slot : Option Nat) :
    (s.claim w addr w0 w2 slot).pins = s.pins ∧ (s.claim w addr w0 w2 slot).crw = s.crw
      ∧ (s.claim w addr w0 w2 slot).mod = s.mod ∧ (s.claim w addr w0 w2 slot).conv = s.conv
      ∧ (s.claim w addr w0 w2 slot).link = s.link ∧ (s.claim w addr w0 w2 slot).lpe = s.lpe
      ∧ (s.claim w addr w0 w2 slot).chc = s.chc ∧ (s.claim w addr w0 w2 slot).tru = s.tru
      ∧ (s.claim w addr w0 w2 slot).dls = s.dls ∧ (s.claim w addr w0 w2 slot).mpt = s.mpt
      ∧ (s.claim w addr w0 w2 slot).ch = s.ch ∧ (s.claim w addr w0 w2 slot).pending = s.pending
      ∧ (s.claim w addr w0 w2 slot).counted = s.counted ∧ (s.claim w addr w0 w2 slot).draws = s.draws
      ∧ (s.claim w addr w0 w2 slot).exc.state = s.exc.state := by
  refine ⟨?_, ?_, ?_, ?_, ?_, ?_, ?_, ?_, ?_, ?_, ?_, ?_, ?_, ?_, ?_⟩ <;> (unfold State.claim; (repeat' split) <;> simp)

@[simp] theorem State.readHeader_frame (s : State) (w : Walk) (addr : Word) (out : PortOutcome) (ws : List Word) :
    (s.readHeader w addr out ws).pins = s.pins ∧ (s.readHeader w addr out ws).mod = s.mod
      ∧ (s.readHeader w addr out ws).conv = s.conv ∧ (s.readHeader w addr out ws).link = s.link
      ∧ (s.readHeader w addr out ws).lpe = s.lpe ∧ (s.readHeader w addr out ws).chc = s.chc
      ∧ (s.readHeader w addr out ws).tru = s.tru ∧ (s.readHeader w addr out ws).dls = s.dls
      ∧ (s.readHeader w addr out ws).mpt = s.mpt ∧ (s.readHeader w addr out ws).ch = s.ch
      ∧ (s.readHeader w addr out ws).pending = s.pending ∧ (s.readHeader w addr out ws).counted = s.counted
      ∧ (s.readHeader w addr out ws).draws = s.draws ∧ (s.readHeader w addr out ws).crw.held = s.crw.held
      ∧ (s.readHeader w addr out ws).crw.softHold = s.crw.softHold
      ∧ (s.readHeader w addr out ws).crw.clock = s.crw.clock ∧ (s.readHeader w addr out ws).crw.straps = s.crw.straps
      ∧ (s.readHeader w addr out ws).crw.base = s.crw.base ∧ (s.readHeader w addr out ws).exc.state = s.exc.state := by
  refine ⟨?_, ?_, ?_, ?_, ?_, ?_, ?_, ?_, ?_, ?_, ?_, ?_, ?_, ?_, ?_, ?_, ?_, ?_, ?_⟩ <;> (unfold State.readHeader; dsimp only; (repeat' split) <;> simp)

@[simp] theorem State.releaseAnswered_frame (s : State) (slot : Option Nat) :
    (s.releaseAnswered slot).pins = s.pins ∧ (s.releaseAnswered slot).crw = s.crw
      ∧ (s.releaseAnswered slot).mod = s.mod ∧ (s.releaseAnswered slot).conv = s.conv
      ∧ (s.releaseAnswered slot).link = s.link ∧ (s.releaseAnswered slot).lpe = s.lpe
      ∧ (s.releaseAnswered slot).chc = s.chc ∧ (s.releaseAnswered slot).tru = s.tru
      ∧ (s.releaseAnswered slot).dls = s.dls ∧ (s.releaseAnswered slot).mpt = s.mpt
      ∧ (s.releaseAnswered slot).ch = s.ch ∧ (s.releaseAnswered slot).pending = s.pending
      ∧ (s.releaseAnswered slot).counted = s.counted ∧ (s.releaseAnswered slot).draws = s.draws
      ∧ (s.releaseAnswered slot).exc.state = s.exc.state ∧ (s.releaseAnswered slot).exc.walk = s.exc.walk := by
  refine ⟨?_, ?_, ?_, ?_, ?_, ?_, ?_, ?_, ?_, ?_, ?_, ?_, ?_, ?_, ?_, ?_⟩ <;> (unfold State.releaseAnswered; (repeat' split) <;> simp)

@[simp] theorem State.captureWritten_frame (s : State) (ctx : Bool) (out : PortOutcome) :
    (s.captureWritten ctx out).pins = s.pins ∧ (s.captureWritten ctx out).crw = s.crw
      ∧ (s.captureWritten ctx out).mod = s.mod ∧ (s.captureWritten ctx out).conv = s.conv
      ∧ (s.captureWritten ctx out).link = s.link ∧ (s.captureWritten ctx out).chc = s.chc
      ∧ (s.captureWritten ctx out).tru = s.tru ∧ (s.captureWritten ctx out).dls = s.dls
      ∧ (s.captureWritten ctx out).mpt = s.mpt ∧ (s.captureWritten ctx out).ch = s.ch
      ∧ (s.captureWritten ctx out).pending = s.pending ∧ (s.captureWritten ctx out).counted = s.counted
      ∧ (s.captureWritten ctx out).draws = s.draws ∧ (s.captureWritten ctx out).exc.state = s.exc.state
      ∧ (s.captureWritten ctx out).exc.walk = s.exc.walk ∧ (s.captureWritten ctx out).lpe.engine = s.lpe.engine
      ∧ (s.captureWritten ctx out).lpe.ready = s.lpe.ready := by
  refine ⟨?_, ?_, ?_, ?_, ?_, ?_, ?_, ?_, ?_, ?_, ?_, ?_, ?_, ?_, ?_, ?_, ?_⟩ <;> (unfold State.captureWritten; dsimp only; (repeat' split) <;> simp)

/-! Of Machine/Orders.lean. -/

@[simp] theorem State.holdSlot_frame (s : State) (x : Claimed) :
    (s.holdSlot x).pins = s.pins ∧ (s.holdSlot x).crw = s.crw ∧ (s.holdSlot x).mod = s.mod
      ∧ (s.holdSlot x).conv = s.conv ∧ (s.holdSlot x).link = s.link ∧ (s.holdSlot x).lpe = s.lpe
      ∧ (s.holdSlot x).chc = s.chc ∧ (s.holdSlot x).tru = s.tru ∧ (s.holdSlot x).dls = s.dls
      ∧ (s.holdSlot x).mpt = s.mpt ∧ (s.holdSlot x).ch = s.ch ∧ (s.holdSlot x).pending = s.pending
      ∧ (s.holdSlot x).counted = s.counted ∧ (s.holdSlot x).draws = s.draws ∧ (s.holdSlot x).exc.state = s.exc.state
      ∧ (s.holdSlot x).exc.walk = s.exc.walk := by
  refine ⟨?_, ?_, ?_, ?_, ?_, ?_, ?_, ?_, ?_, ?_, ?_, ?_, ?_, ?_, ?_, ?_⟩ <;> (unfold State.holdSlot; (repeat' split) <;> simp)

@[simp] theorem State.dropSlot_frame (s : State) (x : Claimed) :
    (s.dropSlot x).pins = s.pins ∧ (s.dropSlot x).crw = s.crw ∧ (s.dropSlot x).mod = s.mod
      ∧ (s.dropSlot x).conv = s.conv ∧ (s.dropSlot x).link = s.link ∧ (s.dropSlot x).lpe = s.lpe
      ∧ (s.dropSlot x).chc = s.chc ∧ (s.dropSlot x).tru = s.tru ∧ (s.dropSlot x).dls = s.dls
      ∧ (s.dropSlot x).mpt = s.mpt ∧ (s.dropSlot x).ch = s.ch ∧ (s.dropSlot x).pending = s.pending
      ∧ (s.dropSlot x).counted = s.counted ∧ (s.dropSlot x).draws = s.draws ∧ (s.dropSlot x).exc.state = s.exc.state
      ∧ (s.dropSlot x).exc.walk = s.exc.walk := by
  refine ⟨?_, ?_, ?_, ?_, ?_, ?_, ?_, ?_, ?_, ?_, ?_, ?_, ?_, ?_, ?_, ?_⟩ <;> (unfold State.dropSlot; (repeat' split) <;> simp)

@[simp] theorem State.setAnswer_frame (s : State) (x : Claimed) (a : Answer) :
    (s.setAnswer x a).pins = s.pins ∧ (s.setAnswer x a).crw = s.crw ∧ (s.setAnswer x a).mod = s.mod
      ∧ (s.setAnswer x a).conv = s.conv ∧ (s.setAnswer x a).link = s.link ∧ (s.setAnswer x a).lpe = s.lpe
      ∧ (s.setAnswer x a).chc = s.chc ∧ (s.setAnswer x a).tru = s.tru ∧ (s.setAnswer x a).dls = s.dls
      ∧ (s.setAnswer x a).mpt = s.mpt ∧ (s.setAnswer x a).ch = s.ch ∧ (s.setAnswer x a).pending = s.pending
      ∧ (s.setAnswer x a).counted = s.counted ∧ (s.setAnswer x a).draws = s.draws
      ∧ (s.setAnswer x a).exc.state = s.exc.state ∧ (s.setAnswer x a).exc.slots = s.exc.slots := by
  refine ⟨?_, ?_, ?_, ?_, ?_, ?_, ?_, ?_, ?_, ?_, ?_, ?_, ?_, ?_, ?_, ?_⟩ <;> (unfold State.setAnswer; (repeat' split) <;> simp)

@[simp] theorem State.answerTake_frame (s : State) (x : Claimed) (t : Taken) :
    (s.answerTake x t).pins = s.pins ∧ (s.answerTake x t).crw = s.crw ∧ (s.answerTake x t).mod = s.mod
      ∧ (s.answerTake x t).conv = s.conv ∧ (s.answerTake x t).link = s.link ∧ (s.answerTake x t).lpe = s.lpe
      ∧ (s.answerTake x t).chc = s.chc ∧ (s.answerTake x t).tru = s.tru ∧ (s.answerTake x t).dls = s.dls
      ∧ (s.answerTake x t).mpt = s.mpt ∧ (s.answerTake x t).ch = s.ch ∧ (s.answerTake x t).pending = s.pending
      ∧ (s.answerTake x t).counted = s.counted ∧ (s.answerTake x t).draws = s.draws
      ∧ (s.answerTake x t).exc.state = s.exc.state := by
  refine ⟨?_, ?_, ?_, ?_, ?_, ?_, ?_, ?_, ?_, ?_, ?_, ?_, ?_, ?_, ?_⟩ <;> (unfold State.answerTake; (repeat' split) <;> simp)

/-! Of Machine/Lifecycle.lean. -/

@[simp] theorem State.abortTo_frame (s : State) (c : Chan) :
    (s.abortTo c).pins = s.pins ∧ (s.abortTo c).crw = s.crw ∧ (s.abortTo c).mod = s.mod ∧ (s.abortTo c).link = s.link
      ∧ (s.abortTo c).chc = s.chc ∧ (s.abortTo c).tru = s.tru ∧ (s.abortTo c).dls = s.dls ∧ (s.abortTo c).mpt = s.mpt
      ∧ (s.abortTo c).pending = s.pending ∧ (s.abortTo c).counted = s.counted ∧ (s.abortTo c).draws = s.draws
      ∧ (s.abortTo c).exc.state = s.exc.state ∧ (s.abortTo c).exc.walk = s.exc.walk := by
  refine ⟨?_, ?_, ?_, ?_, ?_, ?_, ?_, ?_, ?_, ?_, ?_, ?_, ?_⟩ <;> (unfold State.abortTo; simp)

@[simp] theorem State.releaseOne_frame (s : State) (c : Chan) :
    (s.releaseOne c).pins = s.pins ∧ (s.releaseOne c).crw = s.crw ∧ (s.releaseOne c).mod = s.mod
      ∧ (s.releaseOne c).link = s.link ∧ (s.releaseOne c).chc = s.chc ∧ (s.releaseOne c).tru = s.tru
      ∧ (s.releaseOne c).dls = s.dls ∧ (s.releaseOne c).exc = s.exc ∧ (s.releaseOne c).mpt = s.mpt
      ∧ (s.releaseOne c).pending = s.pending ∧ (s.releaseOne c).counted = s.counted ∧ (s.releaseOne c).draws = s.draws := by
  refine ⟨?_, ?_, ?_, ?_, ?_, ?_, ?_, ?_, ?_, ?_, ?_, ?_⟩ <;> (unfold State.releaseOne; simp)

/-! Of Machine/Tick.lean. -/

@[simp] theorem State.tickCarriers_frame (s : State) :
    s.tickCarriers.pins = s.pins ∧ s.tickCarriers.crw = s.crw ∧ s.tickCarriers.conv = s.conv
      ∧ s.tickCarriers.lpe = s.lpe ∧ s.tickCarriers.chc = s.chc ∧ s.tickCarriers.tru = s.tru
      ∧ s.tickCarriers.dls = s.dls ∧ s.tickCarriers.exc = s.exc ∧ s.tickCarriers.mpt = s.mpt
      ∧ s.tickCarriers.pending = s.pending ∧ s.tickCarriers.counted = s.counted ∧ s.tickCarriers.draws = s.draws
      ∧ s.tickCarriers.mod.p = s.mod.p ∧ s.tickCarriers.mod.s = s.mod.s ∧ s.tickCarriers.mod.running = s.mod.running
      ∧ s.tickCarriers.link.udc = s.link.udc := by
  refine ⟨?_, ?_, ?_, ?_, ?_, ?_, ?_, ?_, ?_, ?_, ?_, ?_, ?_, ?_, ?_, ?_⟩ <;> (unfold State.tickCarriers; (repeat' split) <;> simp)

@[simp] theorem State.tick_frame (s : State) :
    s.tick.pins = s.pins ∧ s.tick.chc = s.chc ∧ s.tick.exc = s.exc ∧ s.tick.pending = s.pending
      ∧ s.tick.draws = s.draws ∧ s.tick.mod.p = s.mod.p ∧ s.tick.mod.s = s.mod.s ∧ s.tick.mod.running = s.mod.running
      ∧ s.tick.link.udc = s.link.udc ∧ s.tick.lpe.ready = s.lpe.ready ∧ s.tick.tru.dumps = s.tru.dumps := by
  refine ⟨?_, ?_, ?_, ?_, ?_, ?_, ?_, ?_, ?_, ?_, ?_⟩ <;> (unfold State.tick; simp)

@[simp] theorem State.portEdge_frame (s : State) :
    s.portEdge.pins = s.pins ∧ s.portEdge.crw = s.crw ∧ s.portEdge.mod = s.mod ∧ s.portEdge.conv = s.conv
      ∧ s.portEdge.link = s.link ∧ s.portEdge.lpe = s.lpe ∧ s.portEdge.chc = s.chc ∧ s.portEdge.tru = s.tru
      ∧ s.portEdge.dls = s.dls ∧ s.portEdge.exc = s.exc ∧ s.portEdge.ch = s.ch ∧ s.portEdge.counted = s.counted
      ∧ s.portEdge.mpt.fails = s.mpt.fails ∧ s.portEdge.mpt.ended = s.mpt.ended := by
  refine ⟨?_, ?_, ?_, ?_, ?_, ?_, ?_, ?_, ?_, ?_, ?_, ?_, ?_, ?_⟩ <;> (unfold State.portEdge; dsimp only; split <;> simp)

@[simp] theorem State.countFilters_frame (s : State) :
    s.countFilters.pins = s.pins ∧ s.countFilters.crw = s.crw ∧ s.countFilters.mod = s.mod
      ∧ s.countFilters.conv = s.conv ∧ s.countFilters.link = s.link ∧ s.countFilters.lpe = s.lpe
      ∧ s.countFilters.chc = s.chc ∧ s.countFilters.dls = s.dls ∧ s.countFilters.exc = s.exc
      ∧ s.countFilters.mpt = s.mpt ∧ s.countFilters.pending = s.pending ∧ s.countFilters.draws = s.draws
      ∧ s.countFilters.tru.dumps = s.tru.dumps := by
  refine ⟨?_, ?_, ?_, ?_, ?_, ?_, ?_, ?_, ?_, ?_, ?_, ?_, ?_⟩ <;> (unfold State.countFilters; simp)

end Sys2Proof.Machine
end

