-- ==== Sys2Proof/Laws/Ops.lean ====
section
/-! SUPPORT. What the shared operations on gates, channels and completions can do, one law each, so that no proof about a
command unfolds them again. -/

namespace Sys2Proof.Machine

/-! ### One leg -/

/-- A leg that follows its want keeps it. -/
@[simp] theorem LegGate.settle_want (permit : Bool) (d : Nat) (g : LegGate) :
    (g.settle permit d).want = g.want := rfl

/-- The upper switch is on exactly when it is wanted under PERMIT and was on, or its complement has been off for the
deadtime. -/
theorem LegGate.settle_latchU (permit : Bool) (d : Nat) (g : LegGate) :
    (g.settle permit d).latchU = true ↔ permit = true ∧ g.want = .upper
      ∧ (g.latchU = true ∨ d ≤ if g.latchL = true then 0 else g.offL) := by
  obtain ⟨w, u, l, offU, offL⟩ := g
  cases permit <;> cases w <;> cases u <;> cases l <;> simp [LegGate.settle]

/-- The lower switch, likewise. -/
theorem LegGate.settle_latchL (permit : Bool) (d : Nat) (g : LegGate) :
    (g.settle permit d).latchL = true ↔ permit = true ∧ g.want = .lower
      ∧ (g.latchL = true ∨ d ≤ if g.latchU = true then 0 else g.offU) := by
  obtain ⟨w, u, l, offU, offL⟩ := g
  cases permit <;> cases w <;> cases u <;> cases l <;> simp [LegGate.settle]

/-- Off-times restart at a turn-off and are kept otherwise. -/
theorem LegGate.settle_off (permit : Bool) (d : Nat) (g : LegGate) :
    (g.settle permit d).offU = (if g.latchU = true ∧ (g.settle permit d).latchU = false then 0 else g.offU)
      ∧ (g.settle permit d).offL =
        if g.latchL = true ∧ (g.settle permit d).latchL = false then 0 else g.offL := by
  obtain ⟨w, u, l, offU, offL⟩ := g
  cases permit <;> cases w <;> cases u <;> cases l <;> simp [LegGate.settle]

/-- A leg never leaves a settling with both switches on. -/
theorem LegGate.settle_not_both (permit : Bool) (d : Nat) (g : LegGate) :
    ¬ ((g.settle permit d).latchU = true ∧ (g.settle permit d).latchL = true) := by
  rw [LegGate.settle_latchU, LegGate.settle_latchL]
  rintro ⟨⟨_, h, _⟩, _, h', _⟩
  rw [h] at h'
  cases h'

/-! ### One channel -/

/-- The legs of a channel each follow their wants. -/
theorem Channel.settle_leg (permit : Bool) (p : Nat) (ch : Channel) (leg : Leg) :
    (ch.settle permit p).mod.legs.get leg
      = (ch.mod.legs.get leg).settle permit (effDeadtime ch.chc.mode p) := by
  unfold Channel.settle Channel.openWindow
  dsimp only
  split <;> simp

/-- The leg that follows its want, and the others as they were. -/
theorem Channel.settleLeg_leg (permit : Bool) (p : Nat) (leg l : Leg) (ch : Channel) :
    (ch.settleLeg permit p leg).mod.legs.get l
      = if l = leg then (ch.mod.legs.get l).settle permit (effDeadtime ch.chc.mode p) else ch.mod.legs.get l := by
  unfold Channel.settleLeg Channel.openWindow
  dsimp only
  split <;> cases leg <;> cases l <;> simp [Bank3.get, Bank3.set]

/-- Only that leg and the blanking window change when one leg follows its want. -/
theorem Channel.settleLeg_frame (permit : Bool) (p : Nat) (leg : Leg) (ch : Channel) :
    (ch.settleLeg permit p leg).chc = ch.chc ∧ (ch.settleLeg permit p leg).lpe = ch.lpe
      ∧ (ch.settleLeg permit p leg).exc = ch.exc ∧ (ch.settleLeg permit p leg).smu = ch.smu
      ∧ (ch.settleLeg permit p leg).mod = { ch.mod with legs := (ch.settleLeg permit p leg).mod.legs }
      ∧ (ch.settleLeg permit p leg).tru.cause = ch.tru.cause
      ∧ (ch.settleLeg permit p leg).tru.action = ch.tru.action := by
  unfold Channel.settleLeg Channel.openWindow
  dsimp only
  split <;> simp

/-- Only legs and the blanking window change when a channel's legs follow their wants. -/
theorem Channel.settle_frame (permit : Bool) (p : Nat) (ch : Channel) :
    (ch.settle permit p).chc = ch.chc ∧ (ch.settle permit p).lpe = ch.lpe
      ∧ (ch.settle permit p).exc = ch.exc ∧ (ch.settle permit p).smu = ch.smu
      ∧ (ch.settle permit p).mod = { ch.mod with legs := (ch.settle permit p).mod.legs }
      ∧ (ch.settle permit p).tru.cause = ch.tru.cause ∧ (ch.settle permit p).tru.detail = ch.tru.detail
      ∧ (ch.settle permit p).tru.later = ch.tru.later
      ∧ (ch.settle permit p).tru.action = ch.tru.action := by
  unfold Channel.settle Channel.openWindow
  dsimp only
  split <;> simp

/-- Every leg wants what the source gives after a channel's wants are formed anew, and follows it. -/
theorem Channel.rewant_leg (permit : Bool) (p count : Nat) (ch : Channel) (leg : Leg) :
    (ch.rewant permit p count).mod.legs.get leg
      = LegGate.settle permit (effDeadtime ch.chc.mode p)
          { ch.mod.legs.get leg with want := ch.legWant count p leg } := by
  unfold Channel.rewant
  dsimp only
  rw [Channel.settle_leg]
  cases leg <;> rfl

/-- Only legs and the blanking window change when a channel's wants are formed anew. -/
theorem Channel.rewant_frame (permit : Bool) (p count : Nat) (ch : Channel) :
    (ch.rewant permit p count).chc = ch.chc ∧ (ch.rewant permit p count).lpe = ch.lpe
      ∧ (ch.rewant permit p count).exc = ch.exc ∧ (ch.rewant permit p count).smu = ch.smu
      ∧ (ch.rewant permit p count).mod = { ch.mod with legs := (ch.rewant permit p count).mod.legs }
      ∧ (ch.rewant permit p count).tru.cause = ch.tru.cause
      ∧ (ch.rewant permit p count).tru.detail = ch.tru.detail
      ∧ (ch.rewant permit p count).tru.later = ch.tru.later
      ∧ (ch.rewant permit p count).tru.action = ch.tru.action := by
  unfold Channel.rewant
  exact ⟨(Channel.settle_frame _ _ _).1, (Channel.settle_frame _ _ _).2.1, (Channel.settle_frame _ _ _).2.2.1,
    (Channel.settle_frame _ _ _).2.2.2.1, (Channel.settle_frame _ _ _).2.2.2.2.1,
    (Channel.settle_frame _ _ _).2.2.2.2.2.1, (Channel.settle_frame _ _ _).2.2.2.2.2.2.1,
    (Channel.settle_frame _ _ _).2.2.2.2.2.2.2.1, (Channel.settle_frame _ _ _).2.2.2.2.2.2.2.2⟩

/-- A change of source leaves everything but MOD's compares and legs and the blanking window. -/
theorem Channel.resource_frame (permit : Bool) (p count : Nat) (b : GateSource) (ch : Channel) :
    (ch.resource permit p count b).chc = ch.chc ∧ (ch.resource permit p count b).lpe = ch.lpe
      ∧ (ch.resource permit p count b).exc = ch.exc ∧ (ch.resource permit p count b).smu = ch.smu
      ∧ (ch.resource permit p count b).tru.cause = ch.tru.cause
      ∧ (ch.resource permit p count b).tru.detail = ch.tru.detail
      ∧ (ch.resource permit p count b).tru.later = ch.tru.later
      ∧ (ch.resource permit p count b).tru.action = ch.tru.action := by
  unfold Channel.resource
  split
  · simp
  · simp [Channel.rewant_frame]

/-! ### Moving a channel -/

/-- A moved channel is in its new state, with its parameter groups and lifecycle order as they were. -/
theorem Channel.move_chc (permit : Bool) (p count : Nat) (st : ChanState) (ch : Channel) :
    (ch.move permit p count st).chc = { ch.chc with
      state := st, rampCause := (ch.move permit p count st).chc.rampCause } := by
  unfold Channel.move
  dsimp only
  rw [(Channel.resource_frame _ _ _ _ _).1]

/-- The channel that is moved is in its new state. -/
@[simp] theorem State.move_cstate_self (s : State) (c : Chan) (st : ChanState) :
    (s.move c st).cstate c = st := by
  unfold State.cstate State.chan State.move
  simp only [State.modChan, State.setChan, Bank8.get_set_self]
  rw [Channel.move_chc]

/-- Every other channel is left as it is. -/
theorem State.move_chan_ne (s : State) {c d : Chan} (st : ChanState) (h : d ≠ c) :
    (s.move c st).chan d = s.chan d := by
  unfold State.chan State.move
  simp [State.modChan, State.setChan, Bank8.get_set_ne _ _ h]

theorem State.move_cstate_ne (s : State) {c d : Chan} (st : ChanState) (h : d ≠ c) :
    (s.move c st).cstate d = s.cstate d := by
  unfold State.cstate
  rw [State.move_chan_ne s st h]

/-! ### Trips -/

/-- What a trip event does to a channel it reaches, by the channel's state. -/
theorem State.tripChannel_cases (s : State) (c : Chan) (k : TripCause) (d : Nat) :
    (s.cstate c = .disabled ∧ s.tripChannel c k d = s)
      ∨ (s.cstate c = .tripped ∧ s.tripChannel c k d = s.laterCause c k)
      ∨ ((s.cstate c).inService = true ∧ s.tripChannel c k d = s.enterTrip c k d) := by
  unfold State.tripChannel
  cases h : s.cstate c <;> simp [ChanState.inService]

/-- A trip event that reaches a channel touches no other channel but the holder of its lifecycle order. -/
theorem State.laterCause_chan_ne (s : State) {c d : Chan} (k : TripCause) (h : d ≠ c) :
    (s.laterCause c k).chan d = s.chan d := by
  unfold State.laterCause State.chan
  simp [State.modChan, State.setChan, Bank8.get_set_ne _ _ h]

/-! ### Filters and boundaries -/

/-- A filter that starts anew keeps its input's level, and nothing of what it has counted (R108). -/
@[simp] theorem OcIn.restart_active (o : OcIn) : o.restart.active = o.active := rfl

@[simp] theorem OcIn.restart_count (o : OcIn) : o.restart.count = 0 := rfl

@[simp] theorem OcIn.restart_due (o : OcIn) : o.restart.due = false := rfl

/-- An overcurrent filter at its event: the mark is taken, and the count is one that stands in this tick, or the
setting (R108). -/
@[simp] theorem OcIn.fire_active (blanked : Bool) (f : Nat) (o : OcIn) : (o.fire blanked f).active = o.active := rfl

@[simp] theorem OcIn.fire_due (blanked : Bool) (f : Nat) (o : OcIn) : (o.fire blanked f).due = false := rfl

theorem OcIn.fire_count (blanked : Bool) (f : Nat) (o : OcIn) : (o.fire blanked f).count =
    if o.due = true ∨ blanked = true ∨ o.active = false then o.count else f := by
  obtain ⟨a, n, d⟩ := o
  cases a <;> cases d <;> cases blanked <;> simp [OcIn.fire]

/-- A gate-fault filter at its event changes nothing of TRU but its count and mark (R109). -/
theorem TruCh.fireGateFault_eq (g : Nat) (x : TruCh) : x.fireGateFault g =
    { x with gfCount := if x.gfDue = true ∨ x.gfLow = false then x.gfCount else g, gfDue := false } := by
  unfold TruCh.fireGateFault
  cases x.gfDue <;> cases x.gfLow <;> simp

/-- Boundaries fill the application records in RUNNING and QUIESCING (R142). -/
theorem Exc.applies_iff (x : Exc) : x.applies = true ↔ x.state = .running ∨ x.state = .quiescing := by
  simp [Exc.applies]

/-- A cycle fetches and reports while its boundaries fill records and the final report is to come (R149). -/
theorem Exc.cyclic_iff (x : Exc) : x.cyclic = true ↔ x.applies = true ∧ x.finalTaken = false := by
  simp [Exc.cyclic]

/-- Outside a cycle no entry is brought (R142, R149). -/
theorem State.newEntry_finalTaken (s : State) (c : Chan) (h : s.exc.finalTaken = true) : s.newEntry c = none := by
  unfold State.newEntry
  split <;> simp [h]

/-! ### Periods without a job -/

/-- Loading a shadow changes nothing but the compares (R9). -/
@[simp] theorem Channel.loadShadow_lpe (ch : Channel) : ch.loadShadow.lpe = ch.lpe := by
  unfold Channel.loadShadow
  split
  · split <;> rfl
  · rfl

/-- A pulse that starts changes nothing but MOD's pulse timer (R15). -/
@[simp] theorem Channel.startPulse_lpe (p : Nat) (ch : Channel) : (ch.startPulse p).lpe = ch.lpe := by
  unfold Channel.startPulse
  split <;> rfl

/-- Counting a period without a job leaves everything but the count and the mark of LPE (R9, R40). -/
@[simp] theorem Channel.countNoJob_mod (b : Bool) (ch : Channel) : (ch.countNoJob b).mod = ch.mod := rfl
@[simp] theorem Channel.countNoJob_smu (b : Bool) (ch : Channel) : (ch.countNoJob b).smu = ch.smu := rfl
@[simp] theorem Channel.countNoJob_chc (b : Bool) (ch : Channel) : (ch.countNoJob b).chc = ch.chc := rfl
@[simp] theorem Channel.countNoJob_tru (b : Bool) (ch : Channel) : (ch.countNoJob b).tru = ch.tru := rfl
@[simp] theorem Channel.countNoJob_exc (b : Bool) (ch : Channel) : (ch.countNoJob b).exc = ch.exc := rfl
@[simp] theorem Channel.countNoJob_source (b : Bool) (ch : Channel) : (ch.countNoJob b).source = ch.source := rfl

/-- The gate source is MODULATOR in RUNNING and RAMPDOWN and in no other state (R13). -/
theorem Channel.source_modulator_iff (ch : Channel) :
    ch.source = .modulator ↔ ch.chc.state = .running ∨ ch.chc.state = .rampdown := by
  unfold Channel.source gateSource
  cases ch.chc.state <;> cases ch.tru.action <;> simp

/-- What a zero does to LPE's part of a channel: the no-job count and its mark (R9, R40), and the angle (R11). -/
theorem Channel.zero_lpe (permit : Bool) (p n : Nat) (atZero softOc : Bool) (ch : Channel) :
    (ch.zero permit p n atZero softOc).lpe = { (ch.countNoJob softOc).lpe with
      angle := (ch.zero permit p n atZero softOc).lpe.angle } := by
  unfold Channel.zero Channel.advanceAngle
  split <;> simp [Channel.rewant_frame, Channel.countZero]

/-- A period is a SOFT_OC job's at its zero by the mark that an ended job has left, or by the job in the engine
(R40). -/
theorem State.softOcPeriod_iff (s : State) (c : Chan) : s.softOcPeriod c = true ↔
    (s.chan c).lpe.noJobDue = true
      ∨ ∃ j, s.lpe.engine = some j ∧ j.set.chan = c ∧ j.void = .no ∧ j.late = false ∧ j.softOc = true := by
  unfold State.softOcPeriod
  cases s.lpe.engine <;> simp [and_assoc]

/-- A job that is not void and ends with SOFT_OC is a trip event, and leaves the mark of its period to a zero still to
come (R40). -/
theorem State.endSoftOc_chan (s : State) (j : Job) (c : Chan) : (s.endSoftOc j).chan c =
    let x := (s.tripEvent [j.set.chan] .softOc 0).chan c
    if c = j.set.chan then { x with lpe := { x.lpe with noJobDue := x.lpe.noJobDue || !j.late } } else x := by
  unfold State.endSoftOc
  by_cases h : c = j.set.chan
  · subst h; simp
  · simp [h, State.chan_modChan_ne _ _ h]

/-! ### The engine, its list and the port's words -/

/-- A busy engine starts nothing (R66). -/
theorem State.startJob_busy (s : State) (j : Job) (h : s.lpe.engine = some j) : s.startJob = s := by
  simp [State.startJob, h]

/-- An idle engine takes the head off the ready list and runs the job that its channel's state gives (R35, R66). -/
theorem State.startJob_idle (s : State) (h : s.lpe.engine = none) :
    s.startJob = { s with lpe := { s.lpe with
      ready := s.lpe.ready.drop 1,
      engine := s.lpe.ready.head?.bind fun x =>
        (jobKind (s.cstate x.chan)).map fun k => ⟨x, k, 120, s.jobInputs x, false, .no⟩ } } := by
  obtain ⟨pins, crw, mod, conv, link, ⟨ready, engine, cap0, cap1, taps⟩, chc, tru, dls, exc, mpt, ch, q, c, d⟩ := s
  subst h
  cases ready with
  | nil => rfl
  | cons x rest =>
    simp only [State.startJob]
    split <;> rename_i k <;> simp [k]

/-- A deadline takes the channel's sets off the ready list and keeps the order of the others (R67). -/
@[simp] theorem State.passDeadline_ready (s : State) (c : Chan) :
    (s.passDeadline c).lpe.ready = s.lpe.ready.filter fun x => x.chan != c := by
  unfold State.passDeadline State.countLate
  dsimp only
  split <;> rfl

/-- A run of n words has n addresses (R180). -/
@[simp] theorem wordRun_length (a : Word) (n : Nat) : (wordRun a n).length = n := by simp [wordRun]

/-! ### Completions -/

/-- A completion writes nothing but the slots and the write-back list. -/
theorem State.complete_frame_exc (s : State) (slot : Option Nat) (r : Result) :
    (s.complete slot r).exc = { s.exc with
        slots := (s.complete slot r).exc.slots, writeBack := (s.complete slot r).exc.writeBack } := by
  unfold State.complete
  split
  · rfl
  · split
    · split <;> rfl
    all_goals rfl

/-- The bus after the end of a sequence, case by case (R177). -/
theorem busAfter_cases (park grant pending : Bool) :
    busAfter park grant pending =
      if park then ((if grant then (if pending then .owning else .parked)
        else (if pending then .requesting else .released)), false)
      else (.released, pending) := by
  cases park <;> cases grant <;> cases pending <;> rfl

end Sys2Proof.Machine
end

