-- ==== Sys2Proof/Tests/Slice0.lean ====
section
/-! SUPPORT. The row's own tests: ill-formed terms, one small step per command with the value the spec gives, and for
every statement with hypotheses a state and operands that meet them. -/

namespace Sys2Proof.Tests

set_option Elab.async false

open Sys2Proof Sys2Proof.Machine

/-! ### States the tests start from -/

/-- The state after a command; the same state where it gives none. -/
def after (i : Instr) (s : State) : State :=
  match exec i s with
  | .next t => t
  | .fault _ | .refused _ => s

def runs (s : State) (is : List Instr) : State := is.foldl (fun t i => after i t) s

/-- VALID clock, carriers running, PERMIT active, udc = 20000. -/
def boot : State :=
  runs State.reset [.lockIndicated, .comparatorWindowEnd 8000, .permitActive, .dcSample 2500]

/-- The exchange RUNNING with N = 8, L = 1, K = 3, every channel in service and report notices. -/
def op : State := runs boot [.go, .directoryReadEnd .ok [1, 0x00030108, 0x1FF, 0]]

/-- A channel put into a state. -/
def put (c : Chan) (x : ChanState) (s : State) : State :=
  s.modChan c fun ch => { ch with chc := { ch.chc with state := x } }

/-- A channel with a lifecycle order in flight. -/
def live (c : Chan) (k : LifeKind) (s : State) : State :=
  s.modChan c fun ch => { ch with chc := { ch.chc with life := some ⟨k, 9, none⟩ } }

/-- Channels 2 and 3 as a pair with half share. -/
def paired (s : State) : State := { s with chc := { s.chc with pairs := [⟨2, 3, 16384⟩] } }

/-- An order with tag 7 and this body. -/
def order (c : Byte) (body : List Word) : Order := ⟨c, 7, BitVec.ofNat 8 body.length, true, body⟩

/-- A claimed block of a kind code at address 0x100, with slot 0 reserved when it needs one, at its take. -/
def taking (code : Nat) (slot : Option Nat) (s : State) : State :=
  { s with exc := { s.exc with
      slots := match slot with
        | some i => s.exc.slots.set i .reserved
        | none => s.exc.slots,
      walk := some ⟨.take, 1, some ⟨0x100, BitVec.ofNat 32 (2 + 256 * code), 7, slot, [], true, none⟩⟩ } }

/-- The answer that the walk is about to write. -/
def answer (s : State) : Option Answer := s.exc.walk.bind fun w => w.claimed.bind Claimed.answer

/-- A walk at a stage, with a claimed block of a kind code and body length 5 in slot 0. -/
def walking (x : WalkStage) (code : Nat) (s : State) : State :=
  { s with exc := { s.exc with
      walk := some ⟨x, 1, some ⟨0x100, BitVec.ofNat 32 (2 + 256 * code), 0x00050007, some 0, [], true, none⟩⟩ } }

/-- A sequence of one word that has the bus, at a data clock. -/
def onBus (k : SeqKind) (clock : Nat) (s : State) : State :=
  { s with mpt := { s.mpt with bus := .owning, seq := some { newSeq k [0x40] [5] with dataClock := clock } } }

/-- PARK_EN set and grant present, so that the port keeps a bus it owns (R177). -/
def parked (s : State) : State :=
  { s with crw := { s.crw with straps := { s.crw.straps with parkEn := true } }, pins := { s.pins with grant := true } }

/-- A capture context of channel 1 with one entry in its FIFO, its write in flight. -/
def capturing (x : CapState) (drops : Nat) (s : State) : State :=
  s.setCap false { CapCtx.free with
    state := x, chan := 1, tag := 7, mask := 1, count := 2, produced := 1, drops := drops,
    fifo := [⟨0, 0, [0, 5]⟩], inFlight := true }

/-- A job of channel 1 in the engine, with raw codes 2040 and 2056. -/
def job (k : JobKind) (s : State) : State :=
  let x : SampleSet := ⟨1, 2040, 2056, 3, 5⟩
  { s with lpe := { s.lpe with engine := some ⟨x, k, 0, s.jobInputs x, false, .no⟩ } }

def mode (c : Chan) (f : Mode → Mode) (s : State) : State :=
  s.modChan c fun ch => { ch with chc := { ch.chc with mode := f ch.chc.mode } }

/-- A leg of a channel put into a state. -/
def gate (c : Chan) (leg : Leg) (g : LegGate) (s : State) : State :=
  s.modChan c fun ch => { ch with mod := { ch.mod with legs := ch.mod.legs.set leg g } }

/-- An external input with settings, a raw level and a filtered level. -/
def input (i : Quad) (raw level : Bool) (k : XtSet) (s : State) : State :=
  s.setXt i ⟨raw, level, 0, k⟩

/-- A demand sheet with stamp n for channel 1: q demand 100, angle 0x2000, speed 0x10000. -/
def sheet (n : Word) : List Word := [n, 0x00080002, 0xAA, 0xBB, 0x00640100, 0x2000, 0x10000, n]

/-! ### Terms that stand for no command -/

theorem test_wellFormed_urgent : (Instr.urgentUnknownCode 3).wellFormed = false ∧
    (Instr.urgentUnknownCode 5).wellFormed = true := by decide

theorem test_wellFormed_window : (Instr.registerWriteIgnored 0x08 0).wellFormed = false ∧
    (Instr.registerWriteIgnored 0x0D 0).wellFormed = false ∧
    (Instr.registerWriteIgnored 0x0C 0).wellFormed = true := by decide

theorem test_wellFormed_ticks : (Instr.comparatorWindowEnd 8201).wellFormed = false ∧
    (Instr.comparatorWindowEnd 8200).wellFormed = true := by decide

theorem test_wellFormed_reads : (Instr.directoryReadEnd .ok [1]).wellFormed = false ∧
    (Instr.directoryReadEnd .timeout [1, 2, 3, 4, 5]).wellFormed = false ∧
    (Instr.nextPointerReadEnd .ok []).wellFormed = false ∧
    (Instr.headerReadEnd .parity [1, 2, 3]).wellFormed = false ∧
    (Instr.bodyReadEnd .ok []).wellFormed = false ∧
    (Instr.bodyReadEnd .busError (List.replicate 49 0)).wellFormed = false ∧
    (Instr.directoryReadEnd .timeout [1]).wellFormed = true := by decide +kernel

theorem test_wellFormed_sheet : (Instr.sheetFetchEnd .ok (sheet 1)).wellFormed = true ∧
    (Instr.sheetFetchEnd .ok ((sheet 1).take 7)).wellFormed = false := by decide +kernel

theorem test_wellFormed_orders : (Instr.start ⟨1, 7, 0, true, [5]⟩).wellFormed = false ∧
    (Instr.start ⟨1, 7, 0, false, []⟩).wellFormed = false ∧
    (Instr.setPair ⟨1, 7, 2, true, [5]⟩).wellFormed = false ∧
    (Instr.setPair ⟨1, 7, 2, false, [5]⟩).wellFormed = true ∧
    (Instr.orderUnknownKind ⟨1, 7, 1, true, [5]⟩).wellFormed = false := by decide

theorem test_illFormed_faults : exec (.urgentUnknownCode 3) op = .fault .notACommand ∧
    exec (.registerWriteIgnored 0x08 0) op = .fault .notACommand := ⟨rfl, rfl⟩

/-! ### Resets and the clock check (R186 to R188) -/

theorem test_hardwareReset : let t := after .hardwareReset (put 1 .running op)
    t.crw.held = true ∧ t.cstate 1 = .disabled ∧ t.exc.state = .stopped ∧ t.mod.running = false := by
  decide +kernel

theorem test_hardwareResetRelease :
    let t := runs op [.hardwareReset, .hardwareResetRelease ⟨2, true, true, 3⟩]
    t.crw.base = 0x00800000 ∧ t.crw.clock = .locking ∧ t.crw.straps.wait = 3 := by decide +kernel

/-- The window of CHECKING opens at the first reference edge after the entry, four ticks on (R187). -/
theorem test_lockIndicated : let t := after .lockIndicated State.reset
    t.crw.clock = .checking ∧ t.crw.windowOn = false ∧ t.tick.crw.windowOn = false
      ∧ t.tick.tick.tick.tick.crw.windowOn = true := by decide +kernel

theorem test_lockTimeout_third : let t := runs State.reset [.lockTimeout, .lockTimeout]
    t.crw.clock = .locking ∧ (after .lockTimeout t).crw.clock = .failed
      ∧ (after .lockTimeout t).crw.notice = 0x40 := by decide +kernel

theorem test_tickCountOverrun : let t := after .tickCountOverrun (put 1 .armed op)
    t.crw.clock = .failed ∧ t.cstate 1 = .tripped ∧ (t.chan 1).tru.cause = some .clock
      ∧ t.exc.state = .stopped := by decide +kernel

theorem test_comparatorWindowEnd_low : let s := after .lockIndicated State.reset
    (after (.comparatorWindowEnd 7992) s).crw.clock = .valid
      ∧ (after (.comparatorWindowEnd 7991) s).crw.attempts = 1 := by decide +kernel

theorem test_comparatorWindowEnd_high : let s := after .lockIndicated State.reset
    (after (.comparatorWindowEnd 8008) s).crw.clock = .valid
      ∧ (after (.comparatorWindowEnd 8009) s).crw.attempts = 1 := by decide +kernel

theorem test_softReset_clamps_energy :
    let t := after .softReset { op with dls := { op.dls with e := 2000000, chopper := true } }
    t.dls.e = 1000000 ∧ t.dls.hot = true ∧ t.dls.offTime = 0 ∧ t.crw.clock = .valid
      ∧ t.crw.softHold = some 16 := by decide +kernel

theorem test_softResetRelease : let t := runs op [.softReset, .softResetRelease]
    t.crw.softHold = none ∧ t.mod.running = true ∧ t.mod.s = 0 := by decide +kernel

/-! ### The register window (R126, R129, R189 to R191) -/

theorem test_go : let t := after .go boot
    t.exc.state = .starting ∧ t.mpt.pFetch = some none ∧ t.busRequest = false ∧ t.actAtEdge.busRequest = true := by
  decide +kernel

theorem test_go_rejected : let t := after .go State.reset
    t.crw.reason = .goState ∧ t.crw.notice = 0x80 ∧ readRegister t 0x0C = some 0x100 := by decide +kernel

theorem test_quiesce : let t := after .quiesce (put 1 .running op)
    t.exc.state = .quiescing ∧ t.cstate 1 = .rampdown ∧ (t.chan 1).chc.rampCause = .quiesce := by
  decide +kernel

theorem test_fastStop_twice : let t := after .fastStop (put 1 .running op)
    (t.chan 1).chc.rampCause = .fastStop
      ∧ ((after .fastStop t).chan 1).tru.cause = some .stopEscalated := by decide +kernel

/-- The follower alone is in fast RAMPDOWN, its leader ARMED: both trip (R96, R100, R106). -/
theorem test_fastStop_partner :
    let s := (paired (put 2 .armed (put 3 .rampdown op))).modChan 3 fun ch =>
      { ch with chc := { ch.chc with rampCause := .fastStop } }
    let t := after .fastStop s
    (t.chan 3).tru.cause = some .stopEscalated ∧ (t.chan 2).tru.cause = some .partner ∧ (t.chan 2).tru.detail = 3 := by
  decide +kernel

theorem test_urgentUnknownCode : let t := after (.urgentUnknownCode 0x10001) op
    t.crw.reason = .unknownCode ∧ t.noticed .rejected = true := by decide +kernel

theorem test_regionBaseWrite : (after (.regionBaseWrite 0x12345678) boot).crw.base = 0x12344000 ∧
    (after (.regionBaseWrite 0x12345678) op).crw.reason = .baseState := by decide +kernel

theorem test_noticeWrite :
    (after (.noticeWrite 0xFB) { op with crw := { op.crw with notice := 0x0C } }).crw.notice = 0x08 := by
  decide +kernel

theorem test_noticeEnableWrite :
    let t := after (.noticeEnableWrite 0x1C0) { op with crw := { op.crw with notice := 0x40 } }
    t.crw.enable = 0xC0 ∧ t.noticeLine = true := by decide +kernel

/-- The four codes, the writable offsets, and any other offset (R189, R190). -/
theorem test_writeCommand : writeCommand 0x08 3 = .fastStop ∧ writeCommand 0x08 9 = .urgentUnknownCode 9
    ∧ writeCommand 0x04 5 = .regionBaseWrite 5 ∧ writeCommand 0x0C 1 = .registerWriteIgnored 0x0C 1 := by
  decide +kernel

theorem test_registerWriteIgnored : exec (.registerWriteIgnored 0x0C 1) op = .next op := rfl

theorem test_readRegister : readRegister op 0x00 = some 0xE4146081 ∧
    readRegister op 0x0C = some 0x22 ∧ readRegister op 0x20 = some 0 := by decide +kernel

/-! ### The timebase (R2 to R21, R138) -/

/-- The boundary is counted, whichever of CHC and EXC acts first. -/
theorem test_servoBoundary (b : Bool) : (op.boundary b).mod.s = 1 ∧ (op.boundary b).mod.j = 0 ∧
    (op.boundary b).mod.n = 8 := by
  cases b <;> decide +kernel

/-- After the final report a boundary still marks the records hold, and brings no entry (R142, R149). -/
theorem test_servoBoundary_after_final (b : Bool) :
    let s : State := { op with exc := { op.exc with
      state := .quiescing, finalTaken := true, sheet := some ⟨[⟨1, 100, 0, 0, none, none, none, none⟩]⟩ } }
    ((s.boundary b).chan 1).exc.app = .hold ∧ (s.boundary b).exc.reportWaiting = none := by
  cases b <;> decide +kernel

/-- A swap makes a low input LOW_LEVEL: the channels it routes trip at the swap (R112). -/
theorem test_servoBoundary_low_input (b : Bool) :
    let k : Bank4 XtSet := Bank4.const ⟨.lowLevel, 0x02, .trip, 100⟩
    let s := input 2 false false ⟨.disabled, 0, .trip, 100⟩ (put 1 .armed op)
    let t : State := ({ s with chc := { s.chc with stXt := some ⟨k, []⟩ } } : State).boundary b
    (t.chan 1).tru.cause = some .external ∧ (t.chan 1).tru.detail = 2 := by
  cases b <;> decide +kernel

theorem test_fetchPoint : (after .fetchPoint op).exc.fetch.map Fetch.slot = some 0 ∧
    (after .fetchPoint { op with exc := { op.exc with lastStamp := 6, sinceGo := true } }).exc.fetch.map
      Fetch.slot = some 3 ∧ (after .fetchPoint op).mod.j = 7 := by decide +kernel

theorem test_referenceZero : (after .referenceZero op).mod.j = 1 := by decide +kernel

theorem test_carrierZero_loads_shadow :
    let s := (put 1 .running op).modChan 1 fun ch =>
      { ch with mod := { ch.mod with shadow := some ⟨100, 0, 3125⟩ }, lpe := { ch.lpe with w := 0x30000 } }
    let x := (after (.carrierZero 1) s).chan 1
    x.mod.active = ⟨100, 0, 3125⟩ ∧ x.mod.shadow = none ∧ x.mod.periodCount = 1 ∧ x.lpe.angle = 0x30000
      ∧ (x.mod.legs.get .b).want = .lower ∧ (x.mod.legs.get .c).latchU = true := by decide +kernel

theorem test_carrierZero_without_job :
    ((after (.carrierZero 1) (put 1 .running op)).chan 1).lpe.stats.noJob = 1 := by decide +kernel

theorem test_carrierPeak_waits :
    let t := runs (put 5 .armed (put 1 .armed op)) [.carrierPeak 1, .carrierPeak 5]
    (t.conv.get 1).busy.map (fun x => (x.chan, x.left)) = some (1, 100) ∧
      (t.conv.get 1).waiting.map Trigger.chan = some 5 := by decide +kernel

/-! ### Gates (R12 to R17, R107, R113) -/

/-- A leg of a running channel at a compare value. -/
def comparing (n : Nat) : State :=
  (put 1 .running op).modChan 1 fun ch => { ch with mod := { ch.mod with active := ⟨n, n, n⟩ } }

theorem test_compareEdge :
    let s := gate 1 .a ⟨.upper, true, false, 0, 255⟩ (put 1 .running op)
    let t := after (.compareEdge 1 .a true) s
    t.gateOut 1 .a true = false ∧ t.gateOut 1 .a false = false ∧ (t.chan 1).tru.blank = 100 := by
  decide +kernel

/-- Leg b waits with its deadtime over at the tick of its own rising edge: the edge of leg a leaves it off (R14). -/
theorem test_compareEdge_other_leg :
    let s := gate 1 .b ⟨.upper, false, false, 255, 100⟩ (gate 1 .a ⟨.upper, false, false, 255, 100⟩ (comparing 50))
    let t := runs s [.compareEdge 1 .a true, .compareEdge 1 .b true]
    t.gateOut 1 .b true = false ∧ ((t.chan 1).mod.legs.get .b).offU = 255
      ∧ t.gateOut 1 .b false = true := by decide +kernel

theorem test_deadtimeElapsed_at_deadtime :
    (after (.deadtimeElapsed 1 .a false) (gate 1 .a ⟨.lower, false, false, 100, 0⟩ op)).gateOut 1 .a false
      = true := by decide +kernel

theorem test_deadtimeElapsed_before_deadtime :
    (after (.deadtimeElapsed 1 .a false) (gate 1 .a ⟨.lower, false, false, 99, 0⟩ op)).gateOut 1 .a false
      = false := by decide +kernel

theorem test_blankingEnd :
    let s := op.modChan 1 fun ch => { ch with tru := { ch.tru with blank := 1, blankDue := true } }
    ((after (.blankingEnd 1) s).chan 1).tru.blank = 0 := by decide +kernel

theorem test_chargePulseEnd_last :
    let s := (live 1 .start (put 1 .charging op)).modChan 1 fun ch =>
      { ch with mod := { ch.mod with pulses := 1, pulse := some 0 } }
    let t := after (.chargePulseEnd 1) s
    t.cstate 1 = .armed ∧ t.lifeOf 1 = none := by decide +kernel

theorem test_permitInactive : let t := after .permitInactive (put 1 .armed op)
    (t.chan 1).tru.cause = some .permitLost ∧ (t.chan 1).tru.action = .pulseBlock ∧ t.cstate 0 = .disabled := by
  decide +kernel

theorem test_permitActive :
    let s := gate 1 .a ⟨.lower, false, false, 255, 255⟩ { op with pins := { op.pins with permit := false } }
    (after .permitActive s).gateOut 1 .a false = true := by decide +kernel

/-! ### Measurement and the engine (R22 to R40, R83, R118 to R121) -/

theorem test_conversionComplete :
    let s : State := { put 1 .running op with
      conv := op.conv.set 1 ⟨some ⟨1, 3, 0, 5, false, false⟩, some ⟨5, 300, 5, false⟩⟩ }
    let t := after (.conversionComplete 1 2050 2040) s
    t.lpe.engine.map (fun j => (j.set, j.kind, j.left)) = some (⟨1, 2050, 2040, 3, 5⟩, .full, 120)
      ∧ (t.conv.get 1).busy.map Conversion.skew = some 255 := by decide +kernel

theorem test_jobComplete_calibration :
    let s := (put 1 .calibrating op).modChan 1 fun ch =>
      { ch with smu := ⟨2048, 2048, 63 * 2040, 63 * 2056, 63⟩ }
    let t := after .jobComplete (job .calibration s)
    t.cstate 1 = .charging ∧ (t.chan 1).smu.offA = 2040 ∧ (t.chan 1).smu.offB = 2056
      ∧ (t.chan 1).mod.pulses = 8 := by decide +kernel

theorem test_jobComplete_measuring : let t := after .jobComplete (job .measuring (put 1 .armed op))
    (t.chan 1).lpe.stats.commits = 1 ∧ (t.chan 1).lpe.hist.length = 1 ∧ t.lpe.engine = none := by
  decide +kernel

/-- (4095 × 2048 + 128) / 256 = 32760, and 2^30 / 32760 = 32776. -/
theorem test_dcSample_overvoltage : let t := after (.dcSample 4095) (put 1 .armed op)
    t.link.udc = 32760 ∧ t.link.r = 32776 ∧ (t.chan 1).tru.cause = some .overvoltage
      ∧ t.dls.chopper = true := by decide +kernel

theorem test_dcSample_undervoltage : let t := after (.dcSample 100) (put 1 .armed op)
    t.link.udc = 800 ∧ t.link.r = 53687 ∧ (t.chan 1).tru.cause = some .undervoltage := by decide +kernel

/-! ### Protection inputs (R103 to R111) -/

theorem test_overcurrent_pair :
    let t := after (.overcurrent 3 .b) (paired (put 2 .running (put 3 .running op)))
    (t.chan 3).tru.cause = some .overcurrent ∧ (t.chan 3).tru.detail = 1
      ∧ (t.chan 2).tru.cause = some .partner ∧ (t.chan 2).tru.detail = 3 := by decide +kernel

/-- Two phases reach their setting in one tick: the first trips, its turn-off opens the window, and the count of the
second stays at 0 (R107, R108). -/
theorem test_overcurrent_two_phases :
    let u := gate 1 .a ⟨.upper, true, false, 0, 255⟩ (put 1 .running op)
    let s := u.modChan 1 fun ch => { ch with tru := { ch.tru with
      oc := ⟨⟨true, 20, true⟩, ⟨true, 20, true⟩, ch.tru.oc.c⟩ } }
    let t := runs s [.overcurrent 1 .a, .overcurrent 1 .b]
    (t.chan 1).tru.blank = 100 ∧ (t.chan 1).tru.oc.b = ⟨true, 0, false⟩ := by decide +kernel

theorem test_gateFault_later :
    let t := runs (put 1 .armed op) [.gateFault 1, .overcurrent 1 .a]
    (t.chan 1).tru.cause = some .gateFault ∧ (t.chan 1).tru.later = 0x002 := by decide +kernel

theorem test_xtFilteredEdge :
    let t := after (.xtFilteredEdge 2) (input 2 false true ⟨.falling, 0x02, .trip, 100⟩ (put 1 .armed op))
    (t.chan 1).tru.cause = some .external ∧ (t.chan 1).tru.detail = 2 ∧ (t.tru.xt.get 2).level = false := by
  decide +kernel

theorem test_comparatorInputChange :
    let s := op.modChan 1 fun ch => { ch with tru := { ch.tru with oc := ⟨⟨true, 7, false⟩, ch.tru.oc.b, ch.tru.oc.c⟩ } }
    ((after (.comparatorInputChange 1 .a false) s).chan 1).tru.oc.a = ⟨false, 0, false⟩ := by decide +kernel

theorem test_gateFaultInputChange : let t := after (.gateFaultInputChange 1 true) op
    (t.chan 1).tru.gfLow = true ∧ ((after (.gateFaultInputChange 1 false) t).chan 1).tru.gfLow = false := by
  decide +kernel

theorem test_xtInputChange : let t := after (.xtInputChange 3 false) op
    (t.tru.xt.get 3).raw = false ∧ (t.tru.xt.get 3).level = true := by decide +kernel

/-! ### The memory port (R177 to R184) -/

theorem test_busGrant : let t := after .busGrant (after .go boot).actAtEdge
    t.mpt.bus = .owning ∧ t.mpt.seq.map Seq.addrs = some [0, 4, 8, 12] ∧ t.busLock = true := by decide +kernel

theorem test_grantWithdrawn : let t := runs (after .go boot).actAtEdge [.busGrant, .grantWithdrawn]
    t.pins.grant = false ∧ t.mpt.bus = .owning := by decide +kernel

theorem test_sequenceSelect :
    let s := parked { op with mpt := { op.mpt with
      bus := .owning, pFetch := some (some 3), pReport := some ⟨[1], 0, false⟩ } }
    (after .sequenceSelect s).mpt.seq.map (fun x => x.addrs.head?) = some (some 0xA00) := by decide +kernel

theorem test_wordAnswer_waits : let s := onBus .pointer 1 op
    (after (.wordAnswer true false 0x200 0) s).mpt.ended = [⟨.pointer, .ok, [0x200]⟩]
      ∧ after (.wordAnswer true false 0x200 0) (onBus .pointer 0 op) = onBus .pointer 0 op := by
  decide +kernel

theorem test_wordAnswer_backoff : let t := after (.wordAnswer true true 0 0) (onBus .claim 1 op)
    t.mpt.bus = .requesting ∧ t.mpt.seq.map Seq.restarts = some 1 := by decide +kernel

theorem test_readyTimeout : let t := after .readyTimeout (onBus .claim 256 op)
    t.mpt.ended = [⟨.claim, .timeout, []⟩] ∧ t.mpt.fails = 1 := by decide +kernel

theorem test_requestAfterRelease :
    let s : State := { op with mpt := { op.mpt with bus := .released, offClock := true, pDump := true } }
    (after .requestAfterRelease s).mpt.bus = .requesting := by decide +kernel

/-- A sequence has ended with PARK_EN clear and a report pending: MPT releases the bus at its next edge, the request
is off for that port clock and stands at the edge after it (R177). -/
theorem test_releaseAtEdge :
    let s : State := { op with mpt := { op.mpt with bus := .owning, pReport := some ⟨[1], 0, false⟩ } }
    let t := s.actAtEdge
    t.mpt.bus = .released ∧ t.mpt.offClock = true ∧ t.edgeEvent = some .requestAfterRelease
      ∧ (after .requestAfterRelease t).busRequest = true := by decide +kernel

/-! ### Ends of sequences (R127, R140, R153 to R162) -/

theorem test_directoryReadEnd : op.mod.pendingNL = some (8, 1) ∧ op.exc.dir.k = 3 ∧ op.exc.dir.mask = 0xFF := by
  decide +kernel

theorem test_directoryReadEnd_version :
    let t := runs boot [.go, .directoryReadEnd .ok [2, 0, 0, 0]]
    t.exc.state = .stopped ∧ t.crw.reason = .version := by decide +kernel

theorem test_sheetFetchEnd : let t := runs op [.fetchPoint, .sheetFetchEnd .ok (sheet 5)]
    t.exc.lastStamp = 5 ∧ t.exc.mark1 = 0xBB
      ∧ t.exc.sheet.map (fun x => x.entries.map fun e => (e.chan, e.iq)) = some [(1, 100)] := by decide +kernel

theorem test_sheetFetchEnd_stale :
    let t := runs op [.fetchPoint, .sheetFetchEnd .ok (sheet 5), .fetchPoint, .sheetFetchEnd .ok (sheet 5)]
    t.exc.counters.stale = 1 := by decide +kernel

theorem test_reportWriteEnd :
    let t := after (.reportWriteEnd .ok true) { op with exc := { op.exc with state := .quiescing } }
    t.exc.state = .quiesced ∧ t.noticed .quiesced = true ∧ t.noticed .report = true := by decide +kernel

theorem test_tripDumpEnd :
    let t := after (.tripDumpEnd .busError) { op with mpt := { op.mpt with ended := [⟨.dump, .busError, []⟩] } }
    t.mpt.ended = [] ∧ t.mpt.bus = op.mpt.bus := by decide +kernel

/-- The end stands for the pending dump: its record is written (R116). -/
theorem test_tripDumpEnd_pending :
    let s := after (.overcurrent 1 .a) (put 1 .armed op)
    s.mpt.pDump = true ∧ s.tru.dumps.length = 1 ∧ (after (.tripDumpEnd .ok) s).tru.dumps = [] := by decide +kernel

theorem test_nextPointerReadEnd_unaligned :
    let t := after (.nextPointerReadEnd .ok [0x104]) (walking .pointer 0 op)
    t.exc.walk = none ∧ t.exc.walkFails = 1 := by decide +kernel

/-- A pointer read that a clock failure has left without its walk counts its outcome (R131, R156). -/
theorem test_nextPointerReadEnd_stopped :
    let s : State := { op with exc := { op.exc with state := .stopped, walkFails := 2 },
                               mpt := { op.mpt with ended := [⟨.pointer, .timeout, []⟩] } }
    let t := after (.nextPointerReadEnd .timeout []) s
    t.exc.walkFails = 3 ∧ t.exc.halted = true ∧ t.noticed .port = true ∧ t.exc.state = .stopped := by decide +kernel

theorem test_headerReadEnd : let t := after (.headerReadEnd .ok [0x0A01, 0, 7, 0]) (walking (.header 0x200) 0 op)
    t.exc.position = some 0x200 ∧ t.slot 0 = .reserved
      ∧ t.exc.walk.map Walk.stage = some .claim := by decide +kernel

theorem test_claimWriteEnd : (after (.claimWriteEnd .timeout) (walking .claim 1 op)).exc.walk.map Walk.stage
      = some .body ∧
    (after (.claimWriteEnd .ok) (walking .claim 17 op)).exc.walk.map Walk.stage = some .take := by decide +kernel

theorem test_bodyReadEnd : let t := after (.bodyReadEnd .parity [1, 2, 3, 4, 5]) (walking .body 1 op)
    t.exc.walk.bind (fun w => w.claimed.map Claimed.bodyOk) = some false := by decide +kernel

theorem test_answerWriteEnd : let t := after (.answerWriteEnd .ok true) (walking .answer 1 op)
    t.exc.walk.map Walk.stage = some .pointer ∧ t.noticed .order = true := by decide +kernel

/-- The end stands for a pending answer write: the slot of an order in flight shows it begun, that of an order ended
before is available (R158, R160). -/
theorem test_answerWriteEnd_pending :
    let s := fun (early : Option (Result × Word)) =>
      let w := (walking .answer 10 op).setSlot 0 (.held ⟨0x100, 0xA02, 7, .ok, false, early⟩)
      { w with exc := { w.exc with walk := w.exc.walk.map fun x =>
        { x with claimed := x.claimed.map fun k => { k with answer := some .active } } } }
    (after (.answerWriteEnd .ok false) (s none)).slot 0 = .held ⟨0x100, 0xA02, 7, .ok, true, none⟩
      ∧ (after (.answerWriteEnd .ok false) (s (some (.aborted, 3)))).slot 0 = .free := by decide +kernel

theorem test_doneWriteEnd :
    let s : State := { op with exc := { op.exc with
      slots := op.exc.slots.set 3 .writing, writeBack := [⟨0x100, 0, 0, .ok, 1, 3⟩] } }
    let t := after (.doneWriteEnd .timeout false) s
    t.exc.writeBack = [] ∧ t.slot 3 = .free := by decide +kernel

theorem test_captureWriteEnd : ((after (.captureWriteEnd .ok false) (capturing .draining 0 op)).cap false).state
      = .free ∧
    ((after (.captureWriteEnd .timeout false) (capturing .active 0 op)).cap false).drops = 1 := by
  decide +kernel

/-! ### Orders (R158 to R175) -/

theorem test_setGains : let t := after (.setGains (order 1 [0x9000, 0, 0, 0, 1])) (taking 1 (some 0) op)
    (t.chan 1).chc.stGains.map (fun x => (x.value.kpD, x.value.decoupling, x.slots)) = some (32767, true, [0])
      ∧ answer t = some .active := by decide +kernel

theorem test_setLimits : let t := after (.setLimits (order 1 [1, 2, 3, 0x20000])) (taking 2 (some 0) op)
    answer t = some (.done .badField 0) ∧ t.slot 0 = .free := by decide +kernel

theorem test_setChannelMode :
    let t := after (.setChannelMode (order 1 [2, 0x10001, 0, 0x400007, 0, 0, 0])) (taking 3 none op)
    (t.chan 1).chc.mode.dSource = .table ∧ (t.chan 1).chc.mode.interp = .step ∧ (t.chan 1).chc.mode.pulses = 64
      ∧ (t.chan 1).chc.mode.width = 1 ∧ answer t = some (.done .adjusted 0) := by decide +kernel

theorem test_loadFieldTable :
    let t := after (.loadFieldTable (order 0 [0x20003, 0x5000A, 0x80000014])) (taking 4 (some 0) op)
    (t.chc.tables.get 3).staged.map Staged.value = some [(10, 5), (20, -32767)] := by decide +kernel

theorem test_setPair : let t := after (.setPair (order 2 [0x40000003])) (taking 5 none op)
    t.chc.pairs = [⟨2, 3, 16384⟩] ∧ answer t = some (.done .ok 0) ∧
    answer (after (.setPair (order 2 [0])) (taking 5 none op)) = some (.done .badField 0) := by decide +kernel

theorem test_clearPair : let t := after (.clearPair (order 3 [])) (taking 6 none (paired op))
    t.chc.pairs = [] := by decide +kernel

theorem test_setCarrier :
    let t := after (.setCarrier (order 0 [0x0FA007D0, 0, 0, 0, 0])) (taking 7 (some 0) op)
    t.chc.stCarrier.map (fun x => (x.value.p, x.value.offsets.get 0)) = some (2000, 0)
      ∧ t.slot 0 = .held ⟨0x100, 0x702, 7, .adjusted, false, none⟩ := by decide +kernel

theorem test_setDcLink_order_of_thresholds :
    answer (after (.setDcLink (order 0 [0x27100800, 0x27102710, 0x75306D60, 0, 0, 0])) (taking 8 (some 0) op))
      = some (.done .badField 0) := by decide +kernel

theorem test_setTripInputs :
    let t := after (.setTripInputs (order 0 [0x00FF0003, 0x01000001, 0, 0, 0, 0, 0, 0])) (taking 9 (some 0) op)
    t.chc.stXt.map (fun x => x.value.get 0) = some ⟨.lowLevel, 0xFF, .fastStop, 255⟩ := by decide +kernel

theorem test_start : let t := after (.start (order 2 [])) (paired op)
    t.cstate 2 = .calibrating ∧ t.cstate 3 = .calibrating ∧ t.cstate 1 = .disabled
      ∧ (t.lifeOf 3).map Life.kind = some .start := by decide +kernel

/-- A START restarts the filters, counts and marks of the tick alike (R108, R109). -/
theorem test_start_filters :
    let s := op.modChan 1 fun ch => { ch with tru := { ch.tru with
      oc := ⟨⟨true, 20, true⟩, ch.tru.oc.b, ch.tru.oc.c⟩, gfLow := true, gfCount := 50, gfDue := true } }
    let x := ((after (.start (order 1 [])) s).chan 1).tru
    x.oc.a = ⟨true, 0, false⟩ ∧ x.gfCount = 0 ∧ x.gfDue = false := by decide +kernel

/-- F ticks after its START, and no tick earlier, an input held active has counted to F (R108). -/
theorem test_start_filters_tick :
    let s := op.modChan 1 fun ch => { ch with
      chc := { ch.chc with mode := { ch.chc.mode with ocFilter := 1 } },
      tru := { ch.tru with oc := ⟨⟨true, 1, false⟩, ch.tru.oc.b, ch.tru.oc.c⟩ } }
    let t := (after (.start (order 1 [])) s).countFilters
    ((t.chan 1).tru.oc.a) = ⟨true, 0, false⟩ ∧ ((t.tick.countFilters.chan 1).tru.oc.a) = ⟨true, 1, true⟩ := by
  decide +kernel

theorem test_start_follower : answer (after (.start (order 3 [])) (taking 10 (some 0) (paired op)))
    = some (.done .wrongRole 0) := by decide +kernel

theorem test_run : let t := after (.run (order 1 [])) (put 1 .armed op)
    t.cstate 1 = .armed ∧ (t.lifeOf 1).map Life.kind = some .run := by decide +kernel

theorem test_stop : let t := after (.stop (order 1 [])) (put 1 .running op)
    t.cstate 1 = .rampdown ∧ (t.chan 1).chc.rampCause = .stop := by decide +kernel

theorem test_stop_aborts_start : let t := after (.stop (order 1 [])) (live 1 .start (put 1 .charging op))
    t.cstate 1 = .disabled ∧ t.lifeOf 1 = none := by decide +kernel

/-- The aborted START completes in its own slot (R85, R161). -/
theorem test_disable_aborts_start :
    let u := (put 1 .charging op).modChan 1 fun ch =>
      { ch with chc := { ch.chc with life := some ⟨.start, 9, some 3⟩ } }
    let s := u.setSlot 3 (.held ⟨0x200, 0xA02, 9, .ok, true, none⟩)
    let t := after (.disable (order 1 [])) (taking 13 none s)
    t.slot 3 = .writing ∧ t.exc.writeBack = [⟨0x200, 0xA02, 9, .aborted, 0, 3⟩] ∧ answer t = some (.done .ok 0) := by
  decide +kernel

theorem test_disable_running : answer (after (.disable (order 1 [])) (taking 13 none (put 1 .running op)))
    = some (.done .wrongState 0) := by decide +kernel

theorem test_release : let t := runs (put 1 .armed op) [.overcurrent 1 .a, .release (order 1 [])]
    t.cstate 1 = .disabled ∧ (t.chan 1).tru.cause = none := by decide +kernel

theorem test_release_causePresent :
    let s := runs (put 1 .armed op) [.overcurrent 1 .a, .comparatorInputChange 1 .a true]
    answer (after (.release (order 1 [])) (taking 14 none s)) = some (.done .causePresent 0) := by
  decide +kernel

theorem test_capture : let t := after (.capture (order 1 [0x00010003, 0x01000005, 0])) op
    (t.cap false).state = .active ∧ (t.cap false).mask = 3 ∧ (t.cap false).count = 5
      ∧ (t.cap false).addr = 0x100 := by decide +kernel

theorem test_cancel :
    answer (after (.cancel (order 0 [8])) (taking 16 none (capturing .active 0 op))) = some (.done .noTarget 0) ∧
    ((after (.cancel (order 0 [7])) (capturing .active 0 op)).cap false).state = .ending := by decide +kernel

theorem test_orderUnknownKind : answer (after (.orderUnknownKind (order 9 [])) (taking 17 none op))
    = some (.done .unknownKind 0) := by decide +kernel

/-! ### Arithmetic (R43) -/

theorem test_sine : sine 16384 = 32767 ∧ sine 32768 = 0 ∧ sine 49152 = -32767 ∧ cosine 0 = 32767 ∧
    isqrt 24 = 4 ∧ isqrt 25 = 5 := by decide +kernel

/-- The worked case of section 3.10. -/
def workedCase : JobIn :=
  { op.jobInputs ⟨3, 2150, 2046, 0, 0⟩ with
    offA := 2050, offB := 2046, gI := 4096, angle := 0xFFE00000, w := 0x00400000, iqSheet := 1500, ls := none,
    limits := ⟨8000, 4000, 30000, 64, 512, 31130, 2048, .lenient⟩, iQ := 65536000, state := .running,
    gains := ⟨2048, 3277, 2048, 3277, 0, 0, 0, 24, false⟩, udc := 20000, r := 53687, p := 3125, cmin := 20 }

theorem test_workedCase : let r := fullResult workedCase
    workedCase.thetaO = 64 ∧ (r.thetaS, r.id, r.iq, r.idRef, r.iqRef) = (0, 1600, 924, 0, 1500)
    ∧ (r.vd, r.vq, r.iD, r.iQ) = (-3281, 2180, -5243200, 67423552) ∧ r.limI = false ∧ r.limV = false
    ∧ r.cmp = ⟨1255, 1870, 1532⟩ := by decide +kernel

/-- The table of section 3.6, "Field table lookup". -/
def spindleTable : FieldTable := [(0, 0), (200, 0), (400, -3000), (800, -7000)]

theorem test_fieldLookup : fieldLookup spindleTable (fieldKey 0x00C80000) = 0
    ∧ fieldLookup spindleTable (fieldKey 0x012C8000) = -1500
    ∧ fieldLookup spindleTable (fieldKey (-0x012C8000)) = -1515
    ∧ fieldLookup spindleTable (fieldKey 0x03E80000) = -7000 := by decide +kernel

/-- Lane 0 of 0x00000103 holds two ones and lane 1 one. -/
theorem test_laneParity : laneParity 0x00000103 = 2 ∧ laneOnes 0x00000103 0 0 = 2 ∧ laneOnes 0x00000103 0 1 = 1
    ∧ laneOnes 0x00000103 2 1 = 2 := by decide +kernel

/-! ### Witnesses: states and operands that meet the hypotheses of the statements, clause by clause -/

theorem pairsSafe_none {s : State} (h : s.chc.pairs = []) : s.PairsSafe := by
  simp [State.PairsSafe, h]

theorem pairsSafe_one {s : State} {p : Pair} (h : s.chc.pairs = [p])
    (g : p.leader ≠ p.follower ∧ p.leader ≠ 0 ∧ p.follower ≠ 0 ∧ p.share ≤ 32768)
    (e : s.cstate p.leader = s.cstate p.follower) : s.PairsSafe := by
  refine ⟨by simp [h], by simp [h], fun q hq => ?_⟩
  rw [h, List.mem_singleton] at hq
  subst hq
  exact ⟨g.1, g.2.1, g.2.2.1, g.2.2.2, .inl e⟩

theorem livesSafe_of {s : State}
    (h : ∀ c : Chan, ((s.chan c).chc.life.all fun l => !s.isFollower c &&
      (s.members c).all fun m => l.kind.allows (s.cstate m)) = true) : s.LivesSafe := by
  intro c l hl
  have := h c
  simp [hl] at this
  exact ⟨this.1, fun m hm => this.2 m hm⟩

/-- The state with each channel of the pair (2, 3) put into one state. -/
def both (x : ChanState) : State := paired (put 2 x (put 3 x op))

theorem both_pairsSafe (x : ChanState) : (both x).PairsSafe :=
  pairsSafe_one (p := ⟨2, 3, 16384⟩) rfl (by decide) (by cases x <;> decide +kernel)

theorem both_livesSafe (x : ChanState) : (both x).LivesSafe :=
  livesSafe_of (by cases x <;> decide +kernel)

/-- An exchange state put in. -/
def exchange (x : XState) (s : State) : State := { s with exc := { s.exc with state := x } }

def held : State := after .hardwareReset op

def soft : State := after .softReset op

theorem witness_IdleStep : held.pending = [] ∧ held.crw.held = true ∧ op.pending = [] ∧ op.crw.held = false
    ∧ op.due.length ≠ 0 ∧ State.reset.pending = [] ∧ State.reset.crw.held = false
    ∧ State.reset.due.length = 0 ∧ State.reset.counted = false ∧ (State.reset.chan 0).tru.fresh = true
    ∧ (State.reset.tick.chan 0).tru.fresh = false ∧ State.reset.tick.due.length = 0
    ∧ State.reset.tick.counted = false := by decide +kernel

theorem witness_IdleStep_tick : ({ State.reset with counted := true } : State).due.length = 0
    ∧ State.reset.mpt.edge = false ∧ (boot.mpt.edge = true ∧ boot.crw.held = false ∧ boot.pending = []) := by
  decide +kernel

/-- Events that are due by `State.FallsDue`, of blocks that tick by themselves and of the ends and takes of orders. -/
theorem witness_IdleStep_dues :
    let s := taking 10 (some 0) ({ op with mpt := { op.mpt with ended := [⟨.pointer, .ok, [0]⟩] } })
    Instr.nextPointerReadEnd .ok [0] ∈ s.due ∧ Instr.start ⟨0, 7, 0, true, []⟩ ∈ s.due
    ∧ Instr.lockTimeout ∈ ({ State.reset with crw := { State.reset.crw with refCount := 5000 } } : State).due
    ∧ Instr.tickCountOverrun ∈ ({ op with crw := { op.crw with tickCount := 8200 } } : State).due
    ∧ Instr.readyTimeout ∈ (onBus .claim 256 op).due := by decide +kernel

theorem witness_FollowHands :
    (onBus .dump 1 op).mpt.bus ≠ .released ∧ (onBus .dump 1 op).mpt.runs .tripDump = true
    ∧ (after .go boot).mpt.pends .sheetFetch = true ∧ op.exc.state ≠ .quiescing
    ∧ (let s : State := { op with exc := { op.exc with writeBack := [⟨0x100, 0, 0, .ok, 1, 3⟩] } }
      s.exc.writeBack ≠ [] ∧ s.mpt.isFree .orderWalk = true) := by decide +kernel

/-- Each requester with something to hand over: the fetch, a waiting report, a record filed, a step of the walk and a
capture head; and in QUIESCING an exchange ready to close, and one that a channel keeps open. -/
theorem witness_FollowHands_each :
    let s : State := { capturing .active 0 (after (.overcurrent 1 .a) (put 1 .armed op)) with
      exc := { (walking .body 1 op).exc with fetch := some ⟨3, false⟩, reportWaiting := some ⟨[1], 0, false⟩ } }
    (s.exc.dirWanted = false ∧ s.exc.fetch = some ⟨3, false⟩ ∧ s.mpt.isFree .sheetFetch = true)
    ∧ (s.exc.reportWaiting = some ⟨[1], 0, false⟩ ∧ s.mpt.isFree .reportWrite = true)
    ∧ (s.tru.dumps ≠ [] ∧ s.exc.state = .running)
    ∧ (s.exc.walk.map Walk.stage = some .body ∧ s.exc.writeBack = [] ∧ s.mpt.isFree .orderWalk = true)
    ∧ ((s.cap false).fifo.head?.isSome = true ∧ (s.cap true).fifo = [] ∧ s.mpt.isFree .capture = true)
    ∧ ((exchange .quiescing op).exc.state = .quiescing ∧ (exchange .quiescing op).exc.walk = none
      ∧ (∀ x ∈ op.exc.slots, x = .free) ∧ (∀ c, op.cstate c = .disabled))
    ∧ (put 1 .running (exchange .quiescing op)).cstate 1 = .running := by decide +kernel

theorem witness_HardwareReset : held.crw.held = true ∧ op.crw.held = false := by decide +kernel

theorem witness_Open : op.Open ∧ boot.Open ∧ State.reset.Open ∧ ¬ held.Open ∧ ¬ soft.Open := by
  simp only [State.Open]
  decide +kernel

theorem witness_SoftReset : soft.crw.held = false ∧ soft.crw.softHold ≠ none ∧ soft.crw.clock = .valid
    ∧ (after .softReset State.reset).crw.softHold ≠ none ∧ (after .softReset State.reset).crw.clock ≠ .valid
    ∧ op.crw.softHold = none := by decide +kernel

/-- A clock state put in, with failures counted. -/
def clocked (x : ClockState) (n : Nat) : State :=
  { op with crw := { op.crw with clock := x, attempts := n } }

theorem witness_ClockCheck : (clocked .locking 2).crw.held = false ∧ (clocked .checking 0).crw.held = false
    ∧ (clocked .failed 3).crw.held = false ∧ op.crw.clock = .valid
    ∧ ¬ (7992 ≤ 7991 ∧ 7991 ≤ 8008) ∧ ¬ (7992 ≤ 8009 ∧ 8009 ≤ 8008) ∧ (7992 ≤ 7992 ∧ 7992 ≤ 8008)
    ∧ (7992 ≤ 8008 ∧ 8008 ≤ 8008) := by decide +kernel

theorem witness_ClockFailure : (both .running).crw.held = false ∧ (both .running).crw.clock = .valid
    ∧ (both .running).PairsSafe := ⟨by decide +kernel, by decide +kernel, both_pairsSafe _⟩

theorem witness_WritesRejected : State.reset.exc.state = .stopped ∧ State.reset.crw.clock ≠ .valid
    ∧ (exchange .quiescing op).exc.state = .quiescing ∧ (exchange .starting op).exc.state = .starting
    ∧ op.exc.state = .running ∧ (op.crw.held = false ∧ op.crw.softHold = none)
    ∧ ((0 : Word) ≠ 1 ∧ (0 : Word) ≠ 2 ∧ (0 : Word) ≠ 3 ∧ (0 : Word) ≠ 4)
    ∧ ((5 : Word) ≠ 1 ∧ (5 : Word) ≠ 2 ∧ (5 : Word) ≠ 3 ∧ (5 : Word) ≠ 4) := by decide +kernel

theorem witness_WritesTaken : boot.exc.state = .stopped ∧ boot.crw.clock = .valid
    ∧ (exchange .quiesced op).exc.state = .quiesced
    ∧ ((0x00 : Word) ≠ 0x04 ∧ (0x00 : Word) ≠ 0x08 ∧ (0x00 : Word) ≠ 0x10 ∧ (0x00 : Word) ≠ 0x14)
    ∧ ((0x18 : Word) ≠ 0x04 ∧ (0x18 : Word) ≠ 0x08 ∧ (0x18 : Word) ≠ 0x10 ∧ (0x18 : Word) ≠ 0x14) := by
  decide +kernel

theorem witness_QuiesceEnters : let s := live 4 .start (live 5 .run (live 6 .stop
      (put 4 .calibrating (put 5 .armed (put 6 .rampdown (both .running))))))
    s.exc.state = .running ∧ s.PairsSafe ∧ s.LivesSafe ∧ s.cstate 2 = .running :=
  ⟨by decide +kernel, pairsSafe_one (p := ⟨2, 3, 16384⟩) rfl (by decide) (by decide +kernel),
    livesSafe_of (by decide +kernel), by decide +kernel⟩

/-- A channel in RAMPDOWN with a cause. -/
def ramping (c : Chan) (k : RampCause) (s : State) : State :=
  s.modChan c fun ch => { ch with chc := { ch.chc with state := .rampdown, rampCause := k } }

theorem witness_FastStop : let s := ramping 4 .fastStop (ramping 6 .stop (put 5 .armed (both .running)))
    s.PairsSafe ∧ s.LivesSafe ∧ s.fastRamping 4 = true ∧ s.cstate 6 = .rampdown
    ∧ (s.chan 6).chc.rampCause ≠ .fastStop ∧ s.cstate 5 = .armed ∧ s.cstate 1 = .disabled
    ∧ (s.partner 2).all (fun q => !s.fastRamping q) = true :=
  ⟨pairsSafe_one (p := ⟨2, 3, 16384⟩) rfl (by decide) (by decide +kernel), livesSafe_of (by decide +kernel),
    by decide +kernel⟩

/-- The leader ARMED, and its follower alone in fast RAMPDOWN under a STOP that both share. -/
theorem witness_FastStop_partner : let s := ramping 3 .fastStop (put 2 .armed (both .disabled))
    s.PairsSafe ∧ s.LivesSafe ∧ s.cstate 2 = .armed ∧ s.fastRamping 2 = false ∧ s.partner 2 = some 3
    ∧ s.fastRamping 3 = true := by
  refine ⟨⟨by decide +kernel, List.pairwise_singleton _ _, fun q hq => ?_⟩, livesSafe_of (by decide +kernel),
    by decide +kernel⟩
  obtain rfl := List.mem_singleton.1 hq
  exact ⟨by decide, by decide, by decide, by decide, .inr (.inr (by decide +kernel))⟩

theorem witness_ReferenceEvents : op.crw.held = false ∧ op.mod.running = true ∧ op.mod.j + 1 < op.mod.n
    ∧ ({ op with mod := { op.mod with j := 6 } } : State).mod.j + 1 < op.mod.n
    ∧ (exchange .quiescing op).exc.finalTaken = false ∧ boot.exc.state = .stopped
    ∧ State.reset.mod.running = false := by decide +kernel

theorem witness_CarrierPeak : op.crw.held = false ∧ op.mod.running = true ∧ op.cstate 1 = .disabled
    ∧ (put 1 .armed op).cstate 1 ≠ .disabled := by decide +kernel

theorem witness_CarrierZero : (op.chan 1).exc.app.isEntry = false ∧ op.mod.running = true := by decide +kernel

/-- A set of channel 1 that waits, and a conversion and a job of it under way. -/
theorem witness_CarrierZero_deadline :
    let u := job .measuring (put 1 .armed op)
    let s : State := { u with conv := u.conv.set 1 ⟨some ⟨1, 3, 0, 5, false, false⟩, none⟩,
                              lpe := { u.lpe with ready := [⟨1, 2048, 2048, 0, 0⟩] } }
    (s.chan 1).exc.app.isEntry = false ∧ (∃ z ∈ s.lpe.ready, z.chan = 1) ∧ (s.conv.get 1).busy ≠ none
    ∧ s.lpe.engine.map (fun j => j.set.chan) = some 1 := by decide +kernel

/-- An entry for a channel with an angle jump of 0x2000, beyond the limit of 2048. -/
def entry (c : Chan) : Entry := ⟨c, 100, 0x2000, 0x10000, some 5, some (1, 2), some 32768, some 7⟩

/-- A channel with that entry to apply, its angle valid, under a guard. -/
def applying (c : Chan) (g : Guard) (s : State) : State :=
  s.modChan c fun ch => { ch with
    exc := { ch.exc with app := .entry (entry c), angleValid := true },
    chc := { ch.chc with limits := { ch.chc.limits with guard := g } } }

theorem witness_CarrierZeroAppliesEntry : let s := applying 2 .strict (both .running)
    s.mod.running = true ∧ s.PairsSafe ∧ (s.chan 2).exc.app = .entry (entry 2) ∧ s.partner 2 = some 3
    ∧ (s.cstate 3).inService = true
    ∧ (s.chan 2).chc.limits.jumpLimit < ((entry 2).angle + (s.chan 2).chc.mode.angleOffset
        - (((s.chan 2).lpe.angle + (s.chan 2).lpe.w) >>> 16).setWidth 16).toInt.natAbs
    ∧ (applying 1 .lenient op).cstate 1 = .disabled :=
  ⟨by decide +kernel, pairsSafe_one (p := ⟨2, 3, 16384⟩) rfl (by decide) (by decide +kernel), by decide +kernel⟩

/-- An entry of a RUNNING channel applied at a zero that also loads a fresh shadow and passes a waiting set. -/
theorem witness_CarrierZeroAppliesEntry_acts :
    let u := (applying 1 .lenient (put 1 .running op)).modChan 1 fun ch =>
      { ch with mod := { ch.mod with shadow := some ⟨7, 8, 9⟩ } }
    let s : State := { u with lpe := { u.lpe with ready := [⟨1, 2048, 2048, 0, 0⟩] } }
    let t := after (.carrierZero 1) s
    (s.chan 1).exc.app = .entry (entry 1) ∧ (t.chan 1).mod.active = ⟨7, 8, 9⟩ ∧ t.lpe.ready = []
    ∧ (t.chan 1).lpe.lateTotal = 1 ∧ (t.chan 1).lpe.angle = 0x20000000 := by decide +kernel

/-- The job of channel 1 that `job` puts into the engine, started in a state. -/
def jobOf (k : JobKind) (x : ChanState) : Job :=
  ⟨⟨1, 2040, 2056, 3, 5⟩, k, 0, (put 1 x op).jobInputs ⟨1, 2040, 2056, 3, 5⟩, false, .no⟩

/-- Channel 1 in a state, with a job in the engine that finds a current beyond Itrip. -/
def overcurrentJob (k : JobKind) (x : ChanState) : State :=
  let s := job k (put 1 x op)
  { s with lpe := { s.lpe with engine := s.lpe.engine.map fun j => { j with inp := { j.inp with rawA := 4095 } } } }

/-- The period of a SOFT_OC job counts as one without a job where the trip comes first and the zero finds the channel
TRIPPED: once, and at that zero (R40). -/
theorem test_softOc_period_trip_first :
    let t := runs (overcurrentJob .full .running) [.jobComplete]
    let u := after (.carrierZero 1) t
    t.cstate 1 = .tripped ∧ (t.chan 1).lpe.stats.noJob = 0 ∧ (u.chan 1).lpe.stats.noJob = 1
      ∧ ((after (.carrierZero 1) u).chan 1).lpe.stats.noJob = 1 := by decide +kernel

/-- Where the zero comes first it counts there, for a measuring job too, and the completion leaves no mark (R40). -/
theorem test_softOc_period_zero_first :
    let t := after (.carrierZero 1) (overcurrentJob .measuring .armed)
    let u := after .jobComplete t
    (t.chan 1).lpe.stats.noJob = 1 ∧ u.cstate 1 = .tripped ∧ (u.chan 1).lpe.noJobDue = false := by decide +kernel

/-- Both ways in which a SOFT_OC job makes a period one without a job, and a period that is none. -/
theorem witness_CarrierZero_softOc :
    (overcurrentJob .measuring .armed).SoftOcInHand 1
    ∧ ((after .jobComplete (overcurrentJob .full .running)).chan 1).lpe.noJobDue = true
    ∧ ((put 1 .running op).cstate 1 = .running ∧ ((put 1 .running op).chan 1).mod.shadow = none)
    ∧ ¬ op.PeriodWithoutJob 1 := by
  refine ⟨?_, by decide +kernel, by decide +kernel, ?_⟩
  · exact ⟨{ jobOf .measuring .armed with inp := { (jobOf .measuring .armed).inp with rawA := 4095 } },
      by decide +kernel⟩
  · rintro (h | h | ⟨j, h, -⟩)
    · exact absurd h (by decide +kernel)
    · exact absurd h (by decide +kernel)
    · have e : op.lpe.engine = none := by decide +kernel
      rw [e] at h
      cases h

/-- Converter 1 converting a set of channel 1. -/
def converting0 (s : State) : State := { s with conv := s.conv.set 1 ⟨some ⟨1, 3, 0, 5, false, false⟩, none⟩ }

theorem witness_ServoBoundary : (both .running).crw.held = false ∧ (both .running).mod.running = true
    ∧ (both .running).PairsSafe ∧ (both .running).LivesSafe :=
  ⟨by decide +kernel, by decide +kernel, both_pairsSafe _, both_livesSafe _⟩

/-- An order in slot 0 that waits on staged gains of channel 1. -/
theorem witness_ServoBoundary_completes :
    let s := (op.setSlot 0 (.held ⟨0x100, 0x103, 7, .adjusted, true, none⟩)).modChan 1 fun ch =>
      { ch with chc := { ch.chc with stGains := some ⟨Gains.reset, [0]⟩ } }
    0 ∈ s.stagedSlots ∧ s.slot 0 = .held ⟨0x100, 0x103, 7, .adjusted, true, none⟩
    ∧ (∀ c, (s.chan c).chc.life = none) ∧ s.lpe.cap0.slot = none ∧ s.lpe.cap1.slot = none := by decide +kernel

/-- A staged carrier record, with a set of channel 1 that waits, its conversion under way and the engine busy. -/
theorem witness_ServoBoundary_restart :
    let r : CarrierRec := ⟨2000, Bank8.ofFn fun c => c.val * 500⟩
    let s : State := { job .measuring (converting0 (put 1 .armed op)) with
      chc := { op.chc with stCarrier := some ⟨r, []⟩ },
      lpe := { (job .measuring op).lpe with ready := [⟨1, 2048, 2048, 0, 0⟩] } }
    s.mod.running = true ∧ s.chc.stCarrier ≠ none ∧ 0 < r.p ∧ (∀ c, r.offsets.get c < 2 * r.p)
    ∧ r.offsets.get 0 = 0 ∧ s.lpe.ready ≠ [] ∧ s.lpe.engine ≠ none ∧ (s.conv.get 1).busy ≠ none := by decide +kernel

/-- A DC record with E at its new limit and the chopper on, and trip inputs that make input 2 act on the pair's leader
alone, its count at the new setting for input 1 and below it for input 0. -/
theorem witness_ServoBoundary_swaps :
    let k : Bank4 XtSet := ⟨⟨.disabled, 0, .trip, 5⟩, ⟨.disabled, 0, .trip, 4⟩, ⟨.lowLevel, 0x04, .trip, 100⟩,
      ⟨.disabled, 0, .trip, 100⟩⟩
    let u := input 2 false false ⟨.disabled, 0, .trip, 100⟩ (both .armed)
    let s : State := { (u.setXt 0 ⟨false, true, 4, XtSet.reset⟩).setXt 1 ⟨false, true, 4, XtSet.reset⟩ with
      dls := { u.dls with chopper := true, e := 500 },
      chc := { u.chc with stXt := some ⟨k, []⟩, stDcLink := some ⟨{ u.dls.dc with eLim := 500 }, []⟩ } }
    (s.tru.xt.get 2).level = false ∧ (k.get 2).route.getLsbD 2 = true ∧ (k.get 2).route.getLsbD 3 = false
    ∧ (s.cstate 2).inService = true ∧ s.partner 2 = some 3 ∧ (s.tru.xt.get 0).count < (k.get 0).filter
    ∧ ¬ (s.tru.xt.get 1).count < (k.get 1).filter ∧ s.dls.e = 500 := by decide +kernel

/-- A RUN in flight of the pair (2, 3). -/
def entering : State := live 2 .run (both .armed)

theorem witness_RunEntersAtBoundary : entering.crw.held = false ∧ entering.mod.running = true
    ∧ entering.PairsSafe ∧ entering.LivesSafe ∧ (∃ l, entering.lifeOf 3 = some l ∧ l.kind = .run)
    ∧ entering.chc.stXt = none ∧ (∀ i, (entering.tru.xt.get i).actsLow .fastStop = false)
    ∧ (∀ d, entering.missAfter d < entering.exc.dir.k) ∧ (∀ d, (entering.chan d).mod.zeroTaken = false) :=
  ⟨by decide +kernel, by decide +kernel,
    pairsSafe_one (p := ⟨2, 3, 16384⟩) rfl (by decide) (by decide +kernel), livesSafe_of (by decide +kernel),
    ⟨⟨.run, 9, none⟩, by decide +kernel, rfl⟩, by decide +kernel⟩

/-- The zero of the leader taken before the boundary, its sheet entry waiting. -/
theorem witness_RunEntersAtBoundary_zeroTaken :
    let u := entering.modChan 2 fun ch => { ch with mod := { ch.mod with zeroTaken := true } }
    let s : State := { u with exc := { u.exc with sheetDue := true, sheet := some ⟨[entry 2]⟩ } }
    (s.chan 2).mod.zeroTaken = true ∧ (s.chan 2).chc.limits.guard = .lenient ∧ (s.chan 2).chc.stLimits = none
    ∧ s.exc.cyclic = true ∧ s.chc.stCarrier = none ∧ (s.newEntry 2).map Entry.iq = some 100
    ∧ (∃ l, s.lifeOf 2 = some l ∧ l.kind = .run) := by
  refine ⟨?_, ?_, ?_, ?_, ?_, ?_, ⟨⟨.run, 9, none⟩, ?_, rfl⟩⟩ <;> decide +kernel

/-- A sheet due, and channel 2, leader of (2, 3), one miss short of K = 3. -/
def missing : State :=
  let s := (both .running).modChan 2 fun ch => { ch with exc := { ch.exc with miss := 2 } }
  { s with exc := { s.exc with sheetDue := true } }

theorem witness_DemandLossRampsDown : missing.crw.held = false ∧ missing.mod.running = true
    ∧ missing.PairsSafe ∧ missing.LivesSafe ∧ missing.exc.cyclic = true ∧ missing.exc.sheetDue = true
    ∧ missing.exc.dir.mask.getLsbD 2 = true ∧ missing.exc.dir.k ≤ missing.missAfter 2
    ∧ missing.missAfter 2 = missing.exc.dir.k ∧ 0 < missing.exc.dir.k
    ∧ (missing.chan 2).exc.miss ≠ missing.exc.dir.k ∧ missing.cstate 2 = .running ∧ 3 ∈ missing.members 2
    ∧ missing.chc.stXt = none ∧ (∀ i, (missing.tru.xt.get i).actsLow .fastStop = false)
    ∧ (∀ d, (missing.chan d).mod.zeroTaken = false) :=
  ⟨by decide +kernel, by decide +kernel,
    pairsSafe_one (p := ⟨2, 3, 16384⟩) rfl (by decide) (by decide +kernel), livesSafe_of (by decide +kernel),
    by decide +kernel⟩

theorem witness_BoundaryReports : op.PairsSafe ∧ op.LivesSafe ∧ op.crw.held = false ∧ op.mod.running = true
    ∧ op.exc.cyclic = true ∧ op.exc.halted = false ∧ boot.exc.state ≠ .running ∧ op.NothingStaged := by
  simp only [State.NothingStaged]
  refine ⟨pairsSafe_none (by decide +kernel), livesSafe_of (by decide +kernel), by decide +kernel, by decide +kernel,
    by decide +kernel, by decide +kernel, by decide +kernel,
    by decide +kernel, by decide +kernel, by decide +kernel, by decide +kernel, fun c => ?_⟩
  have h : ∀ c : Chan, (op.chan c).chc.stGains = none ∧ (op.chan c).chc.stLimits = none
      ∧ (op.chan c).chc.life = none := by decide +kernel
  exact ⟨(h c).1, (h c).2.1, fun l e => by simp [(h c).2.2] at e⟩

/-- The zero of a STRICT channel taken before the boundary, with an entry that jumps; and QUIESCING after the final
report. -/
theorem witness_BoundaryReports_entries :
    let u := (applying 2 .strict (both .running)).modChan 2 fun ch =>
      { ch with mod := { ch.mod with zeroTaken := true }, exc := { ch.exc with app := .empty } }
    let s : State := { u with exc := { u.exc with sheetDue := true, sheet := some ⟨[entry 2]⟩ } }
    s.PairsSafe ∧ s.LivesSafe
    ∧ (s.chan 2).mod.zeroTaken = true ∧ s.chc.stCarrier = none ∧ s.exc.dir.mask.getLsbD 2 = true
    ∧ (s.chan 2).exc.angleValid = true ∧ (s.chan 2).chc.limits.guard = .strict
    ∧ (s.chan 2).chc.limits.jumpLimit < ((entry 2).angle + (s.chan 2).chc.mode.angleOffset
        - ((s.chan 2).lpe.angle >>> 16).setWidth 16).toInt.natAbs
    ∧ s.isFollower 3 = true ∧ s.exc.state = .running
    ∧ (let v : State := { s with exc := { s.exc with state := .quiescing, finalTaken := true } }
      v.exc.finalTaken = true ∧ v.exc.state = .quiescing) :=
  ⟨pairsSafe_one (p := ⟨2, 3, 16384⟩) rfl (by decide) (by decide +kernel), livesSafe_of (by decide +kernel),
    by decide +kernel⟩

theorem witness_CompareEdge : (comparing 1).crw.held = false ∧ (comparing 1).cstate 1 = .running
    ∧ 1 < (comparing 1).mod.p ∧ ((comparing 1).chan 1).mod.active.get .a = 1 ∧ (comparing 3124).mod.p = 3125
    ∧ ((comparing 0).chan 1).mod.active.get .a = 0 ∧ ((comparing 3125).chan 1).mod.active.get .a = 3125
    ∧ op.cstate 1 ≠ .running ∧ op.cstate 1 ≠ .rampdown := by decide +kernel

theorem witness_DeadtimeElapsed : op.crw.held = false
    ∧ ((gate 1 .a ⟨.lower, false, false, 100, 0⟩ op).chan 1).mod.legs.get .a = ⟨.lower, false, false, 100, 0⟩
    ∧ ((op.chan 1).mod.legs.get .a).want = .none := by decide +kernel

/-- Channel 2 of the pair in CHARGING with a pulse running and n pulses left, a START in flight. -/
def charging (n : Nat) : State :=
  (live 2 .start (both .charging)).modChan 2 fun ch =>
    { ch with mod := { ch.mod with pulses := n, pulse := some 3 } }

theorem witness_ChargePulseEnd : (charging 2).PairsSafe ∧ (charging 2).LivesSafe ∧ (charging 1).PairsSafe
    ∧ (charging 1).LivesSafe ∧ (charging 1).cstate 2 = .charging ∧ ((charging 1).chan 2).mod.pulse ≠ none
    ∧ ((charging 2).chan 2).mod.pulses = 2 ∧ (charging 1).lifeOf 2 = some ⟨.start, 9, none⟩
    ∧ op.cstate 2 ≠ .charging :=
  ⟨pairsSafe_one (p := ⟨2, 3, 16384⟩) rfl (by decide) (by decide +kernel), livesSafe_of (by decide +kernel),
    pairsSafe_one (p := ⟨2, 3, 16384⟩) rfl (by decide) (by decide +kernel), livesSafe_of (by decide +kernel),
    by decide +kernel⟩

theorem witness_PermitChanges : (both .armed).crw.held = false ∧ (both .armed).pins.permit = true
    ∧ (both .armed).PairsSafe ∧ State.reset.pins.permit = false :=
  ⟨by decide +kernel, by decide +kernel, both_pairsSafe _, rfl⟩

/-- Converter 1 converting channel 1. -/
def converting (late void : Bool) : State :=
  { put 1 .running op with conv := op.conv.set 1 ⟨some ⟨1, 3, 0, 5, late, void⟩, none⟩ }

theorem witness_ConversionComplete : (op.conv.get 1).busy = none
    ∧ ((converting false false).conv.get 1).busy = some ⟨1, 3, 0, 5, false, false⟩
    ∧ ((converting true false).conv.get 1).busy = some ⟨1, 3, 0, 5, true, false⟩
    ∧ (converting false false).lpe.engine = none ∧ (job .full op).lpe.engine ≠ none := by decide +kernel

theorem witness_FullJobCommits : let j := jobOf .full .running
    (job .full (put 1 .running op)).lpe.engine = some j ∧ j.kind = .full ∧ j.void = .no ∧ j.late = false
    ∧ j.inp.overItrip = false ∧ j.inp.state ≠ .tripped ∧ ¬ (j.inp.state = .rampdown ∧ j.inp.iqRef = 0) := by
  decide +kernel

/-- The bounds of the lists, with an ACTIVE capture of the channel. -/
theorem witness_FullJobCommits_bounds :
    let s := (job .full (put 1 .running op)).setCap false { CapCtx.free with state := .active, chan := 1, count := 2 }
    s.BoundsSafe ∧ (s.cap false).decCount = 0 ∧ s.lpe.engine ≠ none := by
  refine ⟨⟨by decide +kernel, by decide +kernel, by decide +kernel, ?_, by decide +kernel⟩, by decide +kernel,
    by decide +kernel⟩
  exact List.Pairwise.nil

/-- A set of a RUNNING channel waits while a job completes: the engine goes on with a full job on it. -/
theorem witness_StartsNext :
    let u := put 2 .running (job .full (put 1 .running op))
    let z : SampleSet := ⟨2, 2048, 2048, 0, 0⟩
    let s : State := { u with lpe := { u.lpe with ready := [z] } }
    let t := after .jobComplete s
    s.lpe.ready.head? = some z ∧ t.lpe.engine.map (fun j => (j.set, j.left, j.kind)) = some (z, 120, .full)
    ∧ t.lpe.ready = [] := by decide +kernel

theorem witness_OtherJobs : let j := jobOf .measuring .armed
    (job .measuring (put 1 .armed op)).lpe.engine = some j ∧ j.kind = .measuring ∧ j.inp.overItrip = false
    ∧ (let big := { j.inp with rawA := 4095 }
      big.overItrip = true ∧ ({ j with void := .disabled, inp := big } : Job).void ≠ .no)
    ∧ (jobOf .calibration .calibrating).kind = .calibration := by decide +kernel

/-- A job that ends with SOFT_OC before its deadline. -/
theorem witness_OtherJobs_softOc : let s := overcurrentJob .full .running
    s.PairsSafe ∧ s.crw.held = false ∧ s.lpe.engine.map (fun j => (j.void, j.late, j.kind, j.inp.state, j.inp.overItrip))
      = some (.no, false, .full, .running, true) :=
  ⟨pairsSafe_none (by decide +kernel), by decide +kernel⟩

theorem witness_RampCompletes : let s := job .full (live 1 .stop (ramping 1 .stop op))
    let j := jobOf .full .rampdown
    s.PairsSafe ∧ s.LivesSafe ∧ s.lpe.engine.map (fun k => (k.kind, k.void, k.late, k.inp.overItrip, k.inp.state,
      k.inp.iqRef)) = some (.full, .no, false, false, .rampdown, 0) ∧ s.cstate j.set.chan = .rampdown
    ∧ s.lifeOf 1 = some ⟨.stop, 9, none⟩ :=
  ⟨pairsSafe_none (by decide +kernel), livesSafe_of (by decide +kernel), by decide +kernel⟩

theorem witness_CalibrationJobs :
    let s := (live 1 .start (put 1 .calibrating op)).modChan 1 fun ch =>
      { ch with smu := ⟨2048, 2048, 63 * 2040, 63 * 2056, 63⟩ }
    (job .calibration s).PairsSafe ∧ (job .calibration s).LivesSafe
    ∧ (job .calibration s).lpe.engine.map Job.kind = some .calibration ∧ (s.chan 1).smu.n = 63
    ∧ (s.chan 1).chc.mode.window = 160 ∧ (63 * 2040 + 2040 + 32) / 64 = 2040
    ∧ ¬ (2048 ≤ (63 * 1800 + 1800 + 32) / 64 + 160) :=
  ⟨pairsSafe_none (by decide +kernel), livesSafe_of (by decide +kernel), by decide +kernel⟩

/-- Raw codes at the edges: udc 1016 lies under the clause that keeps r, 1024 and the bound 32767 under the other. -/
theorem witness_DcLinkValues : op.crw.held = false ∧ op.mod.running = true
    ∧ linkVoltage 128 2048 = 1024 ∧ linkVoltage 127 2048 = 1016 ∧ linkVoltage 4095 65535 = 32767
    ∧ op.link.udc ≤ 32767 ∧ 32769 ≤ op.link.r ∧ op.link.r ≤ 1048576 ∧ op.pending = [] := by decide +kernel

theorem witness_DcSampleSupervises : (both .running).PairsSafe ∧ (both .running).mod.running = true
    ∧ (both .running).dls.dc.uv ≤ (both .running).dls.dc.ov ∧ (both .running).dls.armed = true
    ∧ linkVoltage 1500 2048 = 12000 ∧ linkVoltage 1499 2048 < 12000 ∧ linkVoltage 3625 2048 = 29000
    ∧ linkVoltage 3624 2048 < 29000 :=
  ⟨both_pairsSafe _, by decide +kernel⟩

theorem brakeSafe_of {s : State} (h : s.chc.stDcLink = none) (a : s.dls.hot = true → s.dls.chopper = false)
    (b : s.dls.chopper = true → s.dls.e < s.dls.dc.eLim) (c : s.dls.e < s.dls.dc.eLim + s.dls.dc.onInc) :
    s.BrakeSafe :=
  ⟨a, b, c, by simp [h]⟩

/-- The chopper on, with E one sample short of E_lim. -/
def braking (e : Nat) : State := { op with dls := { op.dls with chopper := true, e := e } }

theorem witness_BrakeEnergy : (braking 999759).BrakeSafe ∧ (braking 999759).dls.e + 256 - 16 = 999999
    ∧ (braking 999760).BrakeSafe ∧ (braking 999760).dls.e + 256 - 16 = 1000000
    ∧ (∃ t, step (braking 999760) = .next t) ∧ (braking 999760).mod.running = true :=
  ⟨brakeSafe_of (by decide +kernel) (by decide +kernel) (by decide +kernel) (by decide +kernel),
    by decide +kernel, brakeSafe_of (by decide +kernel) (by decide +kernel) (by decide +kernel) (by decide +kernel),
    by decide +kernel, ⟨_, rfl⟩, by decide +kernel⟩

theorem witness_FilteredInputsAct :
    let s := input 2 false true ⟨.falling, 0x0C, .trip, 100⟩ (both .running)
    let u := input 2 false true ⟨.lowLevel, 0x0C, .fastStop, 100⟩ (both .running)
    s.crw.held = false ∧ s.PairsSafe ∧ (s.tru.xt.get 2).raw ≠ (s.tru.xt.get 2).level
    ∧ (s.tru.xt.get 2).set.action = .trip ∧ (u.tru.xt.get 2).set.action = .fastStop
    ∧ (u.tru.xt.get 2).set.proc = .lowLevel ∧ (s.tru.xt.get 1).raw = (s.tru.xt.get 1).level
    ∧ ((input 2 true false ⟨.falling, 0x0C, .trip, 100⟩ op).tru.xt.get 2).raw = true :=
  ⟨by decide +kernel, pairsSafe_one (p := ⟨2, 3, 16384⟩) rfl (by decide) (by decide +kernel), by decide +kernel⟩

/-- A filter below its setting with its input active, and a low gate-fault input: the commanded events set the counts.
-/
theorem witness_FilteredInputsAct_counts :
    let s := op.modChan 1 fun ch => { ch with tru := { ch.tru with
      oc := ⟨⟨true, 7, false⟩, ch.tru.oc.b, ch.tru.oc.c⟩, gfLow := true } }
    s.cstate 1 = .disabled ∧ (s.chan 1).tru.oc.a.due = false ∧ (s.chan 1).tru.oc.a.active = true
    ∧ (s.chan 1).tru.blank = 0 ∧ (s.chan 1).tru.gfDue = false ∧ (s.chan 1).tru.gfLow = true := by decide +kernel

/-- An input whose fast stop reaches the leader, ARMED, of a follower in fast RAMPDOWN. -/
theorem witness_FilteredInputsAct_partner :
    let s := input 2 false true ⟨.lowLevel, 0x04, .fastStop, 100⟩ (ramping 3 .fastStop (put 2 .armed (both .disabled)))
    s.LivesSafe ∧ s.cstate 2 = .armed ∧ s.fastRamping 3 = true ∧ (s.tru.xt.get 2).set.route.getLsbD 2 = true :=
  ⟨livesSafe_of (by decide +kernel), by decide +kernel⟩

/-- The port idle on an owned bus, with what is pending. -/
def selecting (f : Mpt → Mpt) : State :=
  parked { op with
    mpt := f { op.mpt with
      bus := .owning, pFetch := none, pReport := none, pDump := false, pWalk := none, pCapture := none } }

theorem witness_SelectsByPriority :
    let a := selecting fun m => { m with pFetch := some none }
    let b := selecting fun m => { m with pFetch := some (some 3), pReport := some ⟨[1], 3, true⟩ }
    let c := selecting fun m => { m with pReport := some ⟨[1], 3, true⟩, pDump := true }
    let d := selecting fun m => { m with pDump := true }
    let w := selecting fun m => { m with pWalk := some .writeBack }
    let x := selecting fun m => { m with pWalk := some .step }
    let y := selecting fun m => { m with pCapture := some false }
    op.crw.held = false ∧ (∀ s ∈ [a, b, c, d, w, x, y], s.mpt.seq = none ∧ s.mpt.bus = .owning
      ∧ s.mpt.anyPending = true ∧ s.crw.straps.parkEn = true ∧ s.pins.grant = true) := by decide +kernel

/-- The bus requested, PARK_EN clear as at reset, nothing running and the directory read pending. -/
theorem witness_SelectsByPriority_grant : let s := (after .go boot).actAtEdge
    s.crw.held = false ∧ s.mpt.bus = .requesting ∧ s.mpt.seq = none ∧ s.mpt.anyPending = true
    ∧ s.mpt.pFetch = some none ∧ s.crw.straps.parkEn = false := by decide +kernel

/-- A pending answer write in its ACTIVE form, of an order in flight and of one that has ended since its take; and a
trip record with its history full. -/
theorem witness_SelectsByPriority_answer :
    let s := fun (early : Option (Result × Word)) =>
      let w := (walking .answer 10 (selecting fun m => { m with pWalk := some .step })).setSlot 0
        (.held ⟨0x100, 0xA02, 7, .ok, false, early⟩)
      ({ w with exc := { w.exc with walk := w.exc.walk.map fun x =>
        { x with claimed := x.claimed.map fun k => { k with answer := some .active } } } } : State)
    (answer (s none) = some .active ∧ (s none).slot 0 = .held ⟨0x100, 0xA02, 7, .ok, false, none⟩)
    ∧ (s (some (.aborted, 3))).slot 0 = .held ⟨0x100, 0xA02, 7, .ok, false, some (.aborted, 3)⟩
    ∧ (s none).mpt.pWalk = some .step ∧ (s none).mpt.anyPending = true
    ∧ (List.replicate 32 (0 : Nat)).length ≤ 32 := by decide +kernel

theorem witness_BusOwnership : (after .go boot).actAtEdge.mpt.bus = .requesting
    ∧ (after .go boot).actAtEdge.mpt.seq = none ∧ (after .go boot).mpt.bus = .released
    ∧ (after .go boot).mpt.anyPending = true ∧ boot.mpt.bus ≠ .requesting
    ∧ ({ boot with mpt := { boot.mpt with offClock := true } } : State).mpt.bus = .released
    ∧ boot.mpt.offClock = false ∧ boot.mpt.anyPending = false
    ∧ (after (.wordAnswer true true 0 0) (onBus .claim 1 op)).mpt.bus = .requesting := by decide +kernel

/-- The cases of the port edge: a bus held with nothing running, kept, parked or given up, and a sequence on the bus
in a transfer and at the address clock of the next. -/
theorem witness_BusOwnership_edge :
    let p := parked { op with mpt := { op.mpt with bus := .owning } }
    let x := onBus .dump 1 op
    let y : State := { x with mpt := { x.mpt with seq := x.mpt.seq.map fun z => { z with addrNext := true } } }
    (p.mpt.seq = none ∧ p.crw.straps.parkEn = true ∧ p.pins.grant = true ∧ p.mpt.anyPending = false)
    ∧ op.crw.straps.parkEn = false ∧ x.mpt.seq.map (fun z => (z.addrNext, z.suspended)) = some (false, false)
    ∧ y.mpt.seq.map (fun z => (z.addrNext, z.suspended, z.kind.locked)) = some (true, false, false)
    ∧ op.pins.grant = false := by decide +kernel

/-- The strap WAIT is 0: data clock 0 is too early, 1 is the first sampled; and the fifth backoff. -/
theorem witness_WordAnswers : (onBus .pointer 1 op).mpt.bus = .owning ∧ op.crw.straps.wait.toNat = 0
    ∧ (onBus .pointer 1 op).mpt.seq = some { newSeq .pointer [0x40] [5] with dataClock := 1 }
    ∧ (onBus .pointer 0 op).mpt.seq.map Seq.dataClock = some 0
    ∧ ({ newSeq .pointer [0x40] [5] with dataClock := 1, restarts := 4 } : Seq).restarts = 4 := by
  decide +kernel

/-- The fourth word of a sheet, with a length of 9, in parity error in lane 0; and the last word of a burst. -/
theorem witness_WordAnswers_sheet :
    let x : Seq := { newSeq .sheet (wordRun 0x400 4) [] with next := 3, carried := [5, 0x00090000, 0], dataClock := 1 }
    let s : State := { op with mpt := { op.mpt with bus := .owning, seq := some x },
                               crw := { op.crw with straps := { op.crw.straps with parityEn := true } } }
    let y := x.carry true 1 0
    s.mpt.seq = some x ∧ y.addrs.length = 9 ∧ y.addrs[8]? = some 0x420 ∧ y.parity = true
    ∧ s.busWord = some (0x40C, none, true)
    ∧ (after (.wordAnswer true false 1 0) s).mpt.seq.map Seq.addrNext = some true := by decide +kernel

theorem witness_DirectoryRead : (after .go boot).exc.state = .starting ∧ (after .go boot).crw.held = false
    ∧ ([1, 0x00030108, 0x1FF, 0] : List Word).getD 0 0 = 1 ∧ ([2, 0, 0, 0] : List Word).getD 0 0 ≠ 1
    ∧ op.exc.state ≠ .starting := by decide +kernel

theorem witness_SheetFetched : let s := after .fetchPoint op
    s.exc.fetchDiscard = false ∧ s.exc.fetch ≠ none ∧ readSheet (sheet 5) ≠ none
    ∧ readSheet [5, 0x00040000, 0, 0] = none ∧ op.exc.fetch = none
    ∧ ({ op with exc := { op.exc with fetchDiscard := true } } : State).exc.fetchDiscard = true
    ∧ (let n : Word := 4
      1 ≤ (5 - n).toNat ∧ (5 - n).toNat < 2 ^ 31) ∧ ¬ (1 ≤ ((5 : Word) - 5).toNat) := by decide +kernel

/-- The sheet of `sheet` in the layout of R134: one entry of three words. -/
theorem witness_SheetFetched_form :
    let e : Entry := ⟨1, 100, 0x2000, 0x10000, none, none, none, none⟩
    readSheet (sheet 5) = some ⟨[e]⟩ ∧ Sheet.ReadFrom ⟨[e]⟩ (sheet 5) := by
  refine ⟨by decide +kernel, by decide +kernel, by decide +kernel, by decide +kernel, by decide +kernel,
    by decide +kernel, [[0x00640100, 0x2000, 0x10000]], 5, by decide +kernel, List.Forall₂.cons ?_ List.Forall₂.nil⟩
  simp only [Entry.LaidIn]
  decide +kernel

/-- An entry with D, FF, LS and TO: -32768 is read as -32767, and a limit scale above 32768 as 32768. -/
theorem test_readEntry : readEntry 2 [0x8000020F, 0x2000, 7, 0x8000, 0x80000001, 0xFFFF, 0xFFFE, 9]
    = some (⟨2, -32767, 0x2000, 7, some (-32767), some (1, -32767), some 32768, some (-2)⟩, [9])
    ∧ readEntry 2 [0x00000210, 0, 0, 9] = none ∧ readEntry 2 [0x00000300, 0, 0, 9] = none := by decide +kernel

theorem witness_ReportDumpCaptureEnds : op.crw.held = false ∧ op.exc.dir.reportEnable = true
    ∧ (exchange .quiescing op).exc.state = .quiescing ∧ ((capturing .active 0 op).cap false).inFlight = true
    ∧ ((capturing .draining 0 op).cap false).fifo.length ≤ 1 ∧ (op.cap false).inFlight = false
    ∧ ((capturing .ending 0 op).cap false).state = .ending := by decide +kernel

/-- A dump that is pending and has not begun, with its record in the queue. -/
theorem witness_ReportDumpCaptureEnds_pending : let s := after (.overcurrent 1 .a) (put 1 .armed op)
    s.mpt.pDump = true ∧ s.mpt.seq = none ∧ s.mpt.ended.length = 0 ∧ s.tru.dumps.length = 1 := by decide +kernel

theorem witness_WalkSteps : (walking .pointer 1 op).crw.held = false
    ∧ (walking .pointer 1 op).exc.walk.map Walk.stage = some .pointer
    ∧ (walking (.header 0x40) 1 op).exc.walk.map Walk.stage = some (.header 0x40)
    ∧ (0x104 : Word).toNat % 16 ≠ 0 ∧ (0x110 : Word).toNat % 16 = 0
    ∧ bits 0x0A01 0 8 = 1 ∧ (orderKind (bits 0x0A01 8 8)).any OrderKind.needsSlot = true
    ∧ (orderKind (bits 0x0D01 8 8)).any OrderKind.needsSlot = false ∧ bits 0x0A02 0 8 ≠ 1
    ∧ op.exc.slots.findIdx? (· == .free) = some 0 ∧ bits 0x00300007 16 8 = 48 ∧ bits 0x00310007 16 8 = 49
    ∧ op.exc.walk = none ∧ op.mpt.seq.isNone = true ∧ op.mpt.ended.length = 0 := by decide +kernel

/-- Reads in the port without a walk: one running, one ended. -/
theorem witness_WalkSteps_stopped : (onBus .header 1 op).exc.walk = none
    ∧ (onBus .header 1 op).mpt.seq.map Seq.kind = some .header
    ∧ (let s : State := { op with mpt := { op.mpt with ended := [⟨.pointer, .ok, [0]⟩] } }
      s.exc.walk = none ∧ s.mpt.ended.map Ended.kind = [.pointer]) := by decide +kernel

theorem witness_AnswerAndDoneEnds : (walking .answer 1 op).crw.held = false
    ∧ (walking .answer 1 op).exc.walk.map (fun w => (w.stage, w.taken)) = some (.answer, 1)
    ∧ ((walking .answer 1 op).setSlot 0 .writing).slot 0 = .writing ∧ op.exc.writeBack = []
    ∧ ((walking .answer 1 op).setSlot 0 (.held ⟨0x100, 0x102, 7, .ok, false, none⟩)).slot 0
        = .held ⟨0x100, 0x102, 7, .ok, false, none⟩
    ∧ ((walking .answer 1 op).setSlot 0 (.held ⟨0x100, 0x102, 7, .ok, false, some (.aborted, 3)⟩)).slot 0
        = .held ⟨0x100, 0x102, 7, .ok, false, some (.aborted, 3)⟩ := by
  decide +kernel

theorem witness_OrderChecks : (⟨1, 7, 49, true, []⟩ : Order).length.toNat = 49
    ∧ (⟨1, 7, 48, false, []⟩ : Order).bodyOk = false
    ∧ (order 1 [0, 0, 0, 0]).length.toNat < OrderKind.need .setGains (order 1 [0, 0, 0, 0])
    ∧ 8 ≤ (order 8 [0, 0, 0, 0, 0]).channel.toNat
    ∧ orderCheck .setGains (order 8 [0, 0, 0, 0, 0]) = some .badField := by decide +kernel

theorem witness_OrderSetGainsLimits :
    orderCheck .setGains (order 7 [0x7FFF8000, 0, 0, 0x310000, 1]) = none
    ∧ bodyField (order 7 [0x7FFF8000, 0, 0, 0x310000, 1]) 8 = 1
    ∧ bodyField (order 7 [0, 0, 0, 0, 2]) 8 = 2 ∧ (order 7 []).channel.toNat = (7 : Chan).val
    ∧ orderCheck .setLimits (order 0 [0, 0, 0, 0x10000]) = none
    ∧ bodyField (order 0 [0, 0, 0, 0x10000]) 7 = 1 ∧ bodyField (order 0 [0, 0, 0, 0x20000]) 7 = 2 := by
  decide +kernel

theorem witness_OrderSetPartRecords :
    orderCheck .loadFieldTable (order 0 [0x20003, 0x5000A, 0x80000014]) = none
    ∧ orderCheck .setCarrier (order 0 [0x0FA007D0, 0, 0, 0, 0]) = none ∧ (∀ c, op.cstate c = .disabled)
    ∧ (put 1 .armed op).cstate 1 ≠ .disabled
    ∧ orderCheck .setDcLink (order 0 [0x27100800, 0x27102710, 0x75306D60, 0, 0, 0]) = none
    ∧ orderCheck .setTripInputs (order 0 [0x00FF0003, 0x01000001, 0, 0, 0, 0, 0, 0]) = none
    ∧ (∀ i : Quad, bodyField (order 0 [0x00FF0003, 0x01000001, 0, 0, 0, 0, 0, 0]) (4 * i.val) ≤ 3) := by
  decide +kernel

/-- Thresholds 1, 2, 3, 4, 32767: in order, the last at its bound. -/
theorem witness_OrderSetPartRecords_thresholds :
    thresholdsOk (order 0 [0x00010800, 0x00030002, 0x7FFF0004, 0, 0, 0]) = true := by decide +kernel

theorem witness_OrderModePair :
    orderCheck .setChannelMode (order 1 [0, 0, 0, 0x10000, 0, 0, 0]) = none ∧ op.cstate 1 = .disabled
    ∧ (put 1 .armed op).cstate 1 ≠ .disabled ∧ orderCheck .setPair (order 2 [0x80000003]) = none
    ∧ bodyField (order 2 [0x80000003]) 0 = 3 ∧ op.pairOf 2 = none ∧ op.chc.pairs.length < 3
    ∧ orderCheck .clearPair (order 3 []) = none ∧ (both .disabled).pairOf 3 ≠ none := by decide +kernel

theorem witness_OrderCaptureCancel :
    orderCheck .capture (order 1 [0x0001007F, 0x0100FFFF, 0]) = none ∧ op.exc.state ≠ .quiescing
    ∧ (exchange .quiescing op).exc.state = .quiescing ∧ (op.cap false).state = .free
    ∧ (capturing .active 0 op).lpe.cap0.state ≠ .free ∧ orderCheck .cancel (order 0 [7]) = none
    ∧ (capturing .active 0 op).lpe.cap0.tag = BitVec.ofNat 16 (bodyField (order 0 [7]) 0)
    ∧ (put 1 .tripped op).cstate 1 = .tripped := by decide +kernel

theorem witness_OrderStartRunStop : orderCheck .start (order 2 []) = none ∧ orderCheck .run (order 2 []) = none
    ∧ orderCheck .stop (order 2 []) = none ∧ (both .disabled).PairsSafe ∧ (both .disabled).lifeOf 2 = none
    ∧ (both .disabled).isFollower 2 = false ∧ (both .disabled).isFollower 3 = true
    ∧ (∀ m ∈ (both .disabled).members 2, (both .disabled).cstate m = .disabled)
    ∧ (both .disabled).pins.permit = true ∧ (both .disabled).dls.dc.uvRelease ≤ (both .disabled).link.udc
    ∧ (both .disabled).exc.state ≠ .quiescing ∧ (∀ m ∈ (both .armed).members 2, (both .armed).cstate m = .armed)
    ∧ (both .running).cstate 2 = .running ∧ (charging 1).lifeOf 2 ≠ none
    ∧ entering.lifeOf 2 = some ⟨.run, 9, none⟩ :=
  ⟨by decide, by decide, by decide, both_pairsSafe _, by decide +kernel⟩

/-- A START in flight with slot 3, which a STOP or a DISABLE with slot 0 or none aborts. -/
theorem witness_OrderAborts :
    let u := (put 1 .charging op).modChan 1 fun ch =>
      { ch with chc := { ch.chc with life := some ⟨.start, 9, some 3⟩ } }
    let s := taking 12 (some 0) (u.setSlot 3 (.held ⟨0x200, 0xA02, 9, .ok, true, none⟩))
    s.lifeOf 1 = some ⟨.start, 9, some 3⟩ ∧ s.takeSlot .stop = some 0 ∧ s.takeSlot .disable = none
    ∧ s.slot 3 = .held ⟨0x200, 0xA02, 9, .ok, true, none⟩ ∧ orderCheck .stop (order 1 []) = none
    ∧ orderCheck .disable (order 1 []) = none := by decide +kernel

theorem witness_OrderDisableRelease : orderCheck .disable (order 2 []) = none
    ∧ orderCheck .release (order 2 []) = none ∧ (both .armed).PairsSafe ∧ (both .tripped).PairsSafe
    ∧ (both .armed).lifeOf 2 = none ∧ (∀ m ∈ (both .armed).members 2, (both .armed).cstate m = .armed)
    ∧ (∀ m ∈ (both .tripped).members 2, (both .tripped).cstate m = .tripped)
    ∧ (both .tripped).causePresent [2, 3] = false
    ∧ ({ both .tripped with pins := ⟨false, false⟩ } : State).causePresent [2, 3] = true
    ∧ (both .disabled).cstate 2 = .disabled :=
  ⟨by decide, by decide, both_pairsSafe _, both_pairsSafe _, by decide +kernel⟩

/-- The premises of the ranges that the current and voltage limits assume, at their bounds. -/
theorem witness_CurrentAndVoltageLimits : let j := (op.jobInputs ⟨1, 0, 4095, 0, 0⟩)
    j.limits.mlim ≤ 32767 ∧ j.udc ≤ 32767 ∧ j.limits.idmax ≤ 32767 ∧ j.limits.imax ≤ 32767 ∧ j.ls = none
    ∧ (phaseDuties 3 0).a + (phaseDuties 3 0).b + (phaseDuties 3 0).c = -1
    ∧ (phaseDuties 4 0).a + (phaseDuties 4 0).b + (phaseDuties 4 0).c = 0
    ∧ spindleTable.Pairwise (fun a b => a.1 < b.1) ∧ spindleTable.head? = some (0, 0)
    ∧ spindleTable.getLast? = some (800, -7000) ∧ spindleTable[1]? = some (200, 0)
    ∧ spindleTable[1 + 1]? = some (400, -3000) := by decide +kernel

theorem witness_StageResults : let j := (op.jobInputs ⟨1, 0, 4095, 0, 0⟩)
    j.limits.idmax ≤ 32767 ∧ j.limits.imax ≤ 32767 ∧ j.ls = none
    ∧ (sra (0 * 28378 + 16384) 15 - sra (4 + 1) 1).natAbs ≤ 32767 := by decide +kernel

theorem gatesSafe_reset : State.reset.GatesSafe := by
  simp only [State.GatesSafe, LegGate.Safe]
  intro c leg
  cases leg <;> revert c <;> decide +kernel

theorem witness_GatesStaySafe : State.reset.GatesSafe
    ∧ (∃ t, step { State.reset with pending := [.permitActive] } = .next t) := ⟨gatesSafe_reset, ⟨_, rfl⟩⟩

theorem witness_PairsAndLivesStaySafe : (both .armed).PairsSafe ∧ (both .armed).LivesSafe
    ∧ (∃ t, step { both .armed with pending := [.permitInactive] } = .next t) :=
  ⟨both_pairsSafe _, both_livesSafe _, ⟨_, rfl⟩⟩

theorem witness_LifecycleMoves : (both .armed).PairsSafe ∧ (both .armed).LivesSafe
    ∧ (∃ t, exec .permitInactive (both .armed) = .next t ∧ (both .armed).cstate 2 ≠ t.cstate 2) :=
  ⟨both_pairsSafe _, both_livesSafe _, ⟨_, rfl, by decide +kernel⟩⟩

theorem witness_CommandsNeverStop : Instr.servoBoundary.wellFormed = true ∧ ((4 : Word) = 1 ∨ (4 : Word) = 2
    ∨ (4 : Word) = 3 ∨ (4 : Word) = 4) ∧ (Instr.directoryReadEnd .ok [1, 2, 3, 4]).wellFormed = true := by
  decide +kernel

theorem witness_ResetIgnoresCommands : held.crw.held = true ∧ Instr.go.wellFormed = true
    ∧ Instr.go ≠ .hardwareReset ∧ (∀ straps, Instr.go ≠ .hardwareResetRelease straps)
    ∧ soft.crw.softHold ≠ none :=
  ⟨by decide +kernel, rfl, by decide, fun _ => Instr.noConfusion, by decide +kernel⟩

theorem witness_ResetsOfSamplingAndBrake : op.Open := witness_Open.1

theorem witness_RegisterReads : op.crw.held = false := by decide +kernel

theorem witness_InputChanges : op.crw.held = false := by decide +kernel

theorem witness_RangesStaySafe : State.reset.TimeSafe ∧ State.reset.LinkSafe ∧ State.reset.BrakeSafe
    ∧ State.reset.BoundsSafe := by
  refine ⟨⟨by simp only [NLInRange]; decide +kernel, by decide +kernel, fun q h => ?_, ?_, by decide +kernel,
    fun x h => ?_⟩, by simp only [State.LinkSafe]; decide +kernel,
    brakeSafe_of rfl (by decide +kernel) (by decide +kernel) (by decide +kernel), ?_⟩
  · cases h
  · simp only [CarrierInRange]
    decide +kernel
  · cases h
  · refine ⟨by decide +kernel, by decide +kernel, by decide +kernel, ?_, by decide +kernel⟩
    exact List.Pairwise.nil

/-- A turn-on after the deadtime of 100 ticks. -/
theorem witness_TurnOnWaitsDeadtime :
    let s := gate 1 .a ⟨.lower, false, false, 100, 0⟩ op
    ∃ t, step { s with pending := [.deadtimeElapsed 1 .a false] } = .next t
      ∧ ((s.chan 1).mod.legs.get .a).latchL = false ∧ ((t.chan 1).mod.legs.get .a).latchL = true :=
  ⟨_, rfl, by decide +kernel, by decide +kernel⟩

end Sys2Proof.Tests
end

namespace Sys2Proof.Machine

/-! ## The DC link: udc, r and gU under every command and over time (R27, R28, R34, R99, R117)

Five commands can move the three values; all others keep them, which the frame lemmas of the shared operations give
one command after another. -/

/-! ### States with the same udc, r and gU -/

/-- t has the udc, the r and the gU of s. -/
def State.SameLink (s t : State) : Prop :=
  t.link.udc = s.link.udc ∧ t.link.r = s.link.r ∧ t.dls.dc.gU = s.dls.dc.gU

/-- The next state, if a command answers one, has the udc, the r and the gU of s. -/
def State.KeepsLink (s : State) (a : Answered) : Prop := ∀ t, a = .next t → s.SameLink t

theorem State.SameLink.refl (s : State) : s.SameLink s := ⟨rfl, rfl, rfl⟩

theorem State.SameLink.trans {s t u : State} (h : s.SameLink t) (k : t.SameLink u) : s.SameLink u :=
  let ⟨udc, r, gain⟩ := h
  let ⟨udc', r', gain'⟩ := k
  ⟨udc'.trans udc, r'.trans r, gain'.trans gain⟩

/-- An operation that leaves the DC link's and DLS's records as they are keeps the three values. -/
theorem State.SameLink.of_eq {s t : State} (hl : t.link = s.link) (hd : t.dls = s.dls) : s.SameLink t :=
  ⟨by rw [hl], by rw [hl], by rw [hd]⟩

@[simp] theorem State.keepsLink_next (s t : State) : s.KeepsLink (.next t) ↔ s.SameLink t :=
  ⟨fun h => h t rfl, fun h _ e => Host.Outcome.next.inj e ▸ h⟩

@[simp] theorem State.keepsLink_fault (s : State) (f : Fault) : s.KeepsLink (.fault f) := fun _ h => by cases h

@[simp] theorem State.keepsLink_finish (s t : State) : s.KeepsLink t.finish ↔ s.SameLink t := by
  simp [State.finish, State.SameLink]

theorem State.keepsLink_live {s : State} {f : State → Answered} (h : s.KeepsLink (f s)) :
    s.KeepsLink (s.live f) := by
  unfold State.live
  split
  · exact (s.keepsLink_next s).2 (.refl s)
  · exact h

/-- A command that does nothing while the part is not held does nothing at all. -/
theorem State.live_next {s : State} {f : State → Answered} (h : s.crw.held = false → f s = .next s) :
    s.live f = .next s := by
  unfold State.live
  split
  next => rfl
  next hheld => exact h (Bool.not_eq_true _ ▸ hheld)

theorem State.keepsLink_window {s : State} {f : State → Answered} (h : s.KeepsLink (f s)) :
    s.KeepsLink (s.window f) := by
  unfold State.window
  split
  · exact (s.keepsLink_next s).2 (.refl s)
  · exact h

theorem onChannel_sameLink {o : Order} {s : State} {f : Chan → State × Taken}
    (h : ∀ c, s.SameLink (f c).1) : s.SameLink (onChannel o s f).1 := by
  unfold onChannel
  split
  · exact h _
  · exact .refl s

theorem onLeader_sameLink {o : Order} {s : State} {f : Chan → State × Taken}
    (h : ∀ c, s.SameLink (f c).1) : s.SameLink (onLeader o s f).1 :=
  onChannel_sameLink fun c => by
    split
    · exact .refl s
    · exact h c

theorem State.takeOrder_keepsLink {s : State} {k : OrderKind} {o : Order}
    {act : Option Nat → State → State × Taken} (h : ∀ (slot : Option Nat) (t : State), t.SameLink (act slot t).1) :
    s.KeepsLink (s.takeOrder k o act) := by
  have judged : ∀ slot (t : State), t.SameLink (t.judge k o (act slot)).1 := fun slot t => by
    unfold State.judge
    split
    · exact .refl t
    · exact h slot t
  refine State.keepsLink_live ?_
  split
  next x _ =>
    have hold : s.SameLink (s.holdSlot x) := .of_eq (by simp) (by simp)
    have answer : ∀ (t : State) (r : Taken), t.SameLink (t.answerTake x r) := fun t _ => .of_eq (by simp) (by simp)
    exact (State.keepsLink_finish _ _).2 ((hold.trans (judged x.slot _)).trans (answer _ _))
  next => exact (State.keepsLink_finish _ _).2 (judged none s)

/-! ### The commands that keep udc, r and gU -/

/-! Of Machine/Clock.lean. -/

@[simp] theorem State.startTimebase_link_r (s : State) : s.startTimebase.link.r = s.link.r := by
  simp [State.startTimebase]

@[simp] theorem State.enterValid_link_r (s : State) : s.enterValid.link.r = s.link.r := by
  unfold State.enterValid
  dsimp only
  split <;> simp

/-! Of Machine/Orders.lean: the rules of the orders. -/

@[simp] theorem refuse_sameLink (s : State) (r : Result) : s.SameLink (refuse s r).1 := .refl s

theorem actSetGains_sameLink (o : Order) (slot : Option Nat) (s : State) :
    s.SameLink (actSetGains o slot s).1 :=
  onChannel_sameLink fun c => by split <;> simp [State.SameLink, refuse]

theorem actSetLimits_sameLink (o : Order) (slot : Option Nat) (s : State) :
    s.SameLink (actSetLimits o slot s).1 :=
  onChannel_sameLink fun c => by split <;> simp [State.SameLink, refuse]

theorem actSetChannelMode_sameLink (o : Order) (s : State) : s.SameLink (actSetChannelMode o s).1 :=
  onChannel_sameLink fun c => by (repeat' split) <;> simp [State.SameLink, refuse]

theorem actLoadFieldTable_sameLink (o : Order) (slot : Option Nat) (s : State) :
    s.SameLink (actLoadFieldTable o slot s).1 := by
  unfold actLoadFieldTable
  split <;> simp [State.SameLink, refuse]

theorem actSetPair_sameLink (o : Order) (s : State) : s.SameLink (actSetPair o s).1 :=
  onChannel_sameLink fun c => by (repeat' split) <;> simp [State.SameLink, refuse]

theorem actClearPair_sameLink (o : Order) (s : State) : s.SameLink (actClearPair o s).1 :=
  onChannel_sameLink fun c => by (repeat' split) <;> simp [State.SameLink, refuse]

theorem actSetCarrier_sameLink (o : Order) (slot : Option Nat) (s : State) :
    s.SameLink (actSetCarrier o slot s).1 := by
  unfold actSetCarrier
  split <;> simp [State.SameLink, refuse]

theorem actSetDcLink_sameLink (o : Order) (slot : Option Nat) (s : State) :
    s.SameLink (actSetDcLink o slot s).1 := by
  unfold actSetDcLink
  split <;> simp [State.SameLink, refuse]

theorem actSetTripInputs_sameLink (o : Order) (slot : Option Nat) (s : State) :
    s.SameLink (actSetTripInputs o slot s).1 := by
  unfold actSetTripInputs
  split <;> simp [State.SameLink, refuse]

theorem actCapture_sameLink (o : Order) (slot : Option Nat) (s : State) :
    s.SameLink (actCapture o slot s).1 :=
  onChannel_sameLink fun c => by (repeat' split) <;> simp [State.SameLink, refuse]

theorem actCancel_sameLink (o : Order) (s : State) : s.SameLink (actCancel o s).1 := by
  unfold actCancel
  dsimp only
  split <;> simp [State.SameLink, refuse]

/-! Of Machine/Lifecycle.lean: the rules of the lifecycle orders. -/

theorem beginStart_sameLink (o : Order) (slot : Option Nat) (c : Chan) (s : State) :
    s.SameLink (beginStart o slot c s).1 := by
  unfold beginStart
  (repeat' split) <;> simp [State.SameLink, refuse]

theorem actStart_sameLink (o : Order) (slot : Option Nat) (s : State) : s.SameLink (actStart o slot s).1 :=
  onLeader_sameLink fun c => by split <;> simp [beginStart_sameLink]

theorem actRun_sameLink (o : Order) (slot : Option Nat) (s : State) : s.SameLink (actRun o slot s).1 :=
  onLeader_sameLink fun c => by (repeat' split) <;> simp [State.SameLink, refuse]

theorem beginStop_sameLink (o : Order) (slot : Option Nat) (c : Chan) (s : State) :
    s.SameLink (beginStop o slot c s).1 := by
  unfold beginStop
  split <;> simp [State.SameLink, refuse]

theorem actStop_sameLink (o : Order) (slot : Option Nat) (s : State) : s.SameLink (actStop o slot s).1 :=
  onLeader_sameLink fun c => by
    (repeat' split) <;> simp [beginStop_sameLink, State.SameLink.of_eq]

theorem actDisable_sameLink (o : Order) (s : State) : s.SameLink (actDisable o s).1 :=
  onLeader_sameLink fun c => by (repeat' split) <;> simp [State.SameLink, refuse]

theorem actRelease_sameLink (o : Order) (s : State) : s.SameLink (actRelease o s).1 :=
  onLeader_sameLink fun c => by (repeat' split) <;> simp [State.SameLink, refuse]

/-! Every command of the table but those five. -/

/-- The commands that set udc and r, or gU: the resets, the DC sample and the servo boundary. -/
def setsLink : Instr → Bool
  | .hardwareReset | .hardwareResetRelease _ | .softReset | .dcSample _ | .servoBoundary => true
  | _ => false

/-- A command that neither resets, samples nor swaps keeps udc, r and gU. -/
theorem exec_keepsLink {i : Instr} (h : setsLink i = false) (s : State) : s.KeepsLink (exec i s) := by
  cases i with
  | hardwareReset | hardwareResetRelease | softReset | dcSample | servoBoundary => cases h
  | lockIndicated | lockTimeout | tickCountOverrun | deadtimeElapsed | conversionComplete | jobComplete
  | referenceZero | blankingEnd | overcurrent | gateFault | sequenceSelect | wordAnswer | readyTimeout
  | requestAfterRelease | tripDumpEnd | orderUnknownKind =>
    rw [exec]
    refine State.keepsLink_live ?_
    (repeat' split) <;> simp [State.SameLink]
  | comparatorWindowEnd | softResetRelease | compareEdge | chargePulseEnd | fetchPoint | carrierZero | carrierPeak
  | xtFilteredEdge | directoryReadEnd | sheetFetchEnd | reportWriteEnd | nextPointerReadEnd | headerReadEnd
  | claimWriteEnd | bodyReadEnd | answerWriteEnd | doneWriteEnd | captureWriteEnd =>
    rw [exec]
    refine State.keepsLink_live ?_
    dsimp only
    (repeat' split) <;> simp [State.SameLink]
  | go | quiesce | fastStop | regionBaseWrite | noticeWrite | noticeEnableWrite =>
    rw [exec]
    refine State.keepsLink_window ?_
    (repeat' split) <;> simp [State.SameLink]
  | urgentUnknownCode code =>
    rw [exec, execUrgentUnknownCode]
    split
    · simp
    · exact State.keepsLink_window (by simp [State.SameLink])
  | registerWriteIgnored | permitInactive | permitActive | busGrant =>
    rw [exec]
    simp only [execRegisterWriteIgnored, execPermitInactive, execPermitActive, execBusGrant]
    (repeat' split) <;> simp [State.SameLink]
  | grantWithdrawn | comparatorInputChange | gateFaultInputChange | xtInputChange =>
    rw [exec]
    simp [execGrantWithdrawn, execComparatorInputChange, execGateFaultInputChange, execXtInputChange,
      State.SameLink]
  | setGains o => rw [exec]; exact State.takeOrder_keepsLink (actSetGains_sameLink o)
  | setLimits o => rw [exec]; exact State.takeOrder_keepsLink (actSetLimits_sameLink o)
  | setChannelMode o => rw [exec]; exact State.takeOrder_keepsLink fun _ => actSetChannelMode_sameLink o
  | loadFieldTable o => rw [exec]; exact State.takeOrder_keepsLink (actLoadFieldTable_sameLink o)
  | setPair o => rw [exec]; exact State.takeOrder_keepsLink fun _ => actSetPair_sameLink o
  | clearPair o => rw [exec]; exact State.takeOrder_keepsLink fun _ => actClearPair_sameLink o
  | setCarrier o => rw [exec]; exact State.takeOrder_keepsLink (actSetCarrier_sameLink o)
  | setDcLink o => rw [exec]; exact State.takeOrder_keepsLink (actSetDcLink_sameLink o)
  | setTripInputs o => rw [exec]; exact State.takeOrder_keepsLink (actSetTripInputs_sameLink o)
  | start o => rw [exec]; exact State.takeOrder_keepsLink (actStart_sameLink o)
  | run o => rw [exec]; exact State.takeOrder_keepsLink (actRun_sameLink o)
  | stop o => rw [exec]; exact State.takeOrder_keepsLink (actStop_sameLink o)
  | disable o => rw [exec]; exact State.takeOrder_keepsLink fun _ => actDisable_sameLink o
  | release o => rw [exec]; exact State.takeOrder_keepsLink fun _ => actRelease_sameLink o
  | capture o => rw [exec]; exact State.takeOrder_keepsLink (actCapture_sameLink o)
  | cancel o => rw [exec]; exact State.takeOrder_keepsLink fun _ => actCancel_sameLink o

/-! ### The resets -/

@[simp] theorem State.softResetValues_link (s : State) : s.softResetValues.link = Link.reset := by
  unfold State.softResetValues
  dsimp only
  split <;> simp

@[simp] theorem State.softResetValues_dc (s : State) : s.softResetValues.dls.dc = DcRec.reset := by
  unfold State.softResetValues
  dsimp only
  split <;> simp [Dls.softReset, Dls.withRecord]

/-- The commands that can reset the part. -/
def IsReset (i : Instr) : Prop := i = .hardwareReset ∨ i = .softReset ∨ ∃ p, i = .hardwareResetRelease p

/-- t has the udc, the r and the gU of a reset part (R34, R117). -/
def State.LinkReset (t : State) : Prop := t.link.udc = 0 ∧ t.link.r = 53687 ∧ t.dls.dc.gU = 2048

theorem State.hardReset_linkReset (s : State) (held : Bool) (straps : Straps) :
    (s.hardReset held straps).LinkReset := ⟨rfl, rfl, rfl⟩

theorem State.softResetValues_linkReset (s : State) : s.softResetValues.LinkReset := by
  simp [State.LinkReset, Link.reset, DcRec.reset]

theorem execSoftReset_open {s : State} (h : s.Open) : execSoftReset s = .next s.softResetValues := by
  obtain ⟨hheld, hsoft⟩ := h
  simp [execSoftReset, State.window, hheld, hsoft]

/-! ### The servo boundary -/

@[simp] theorem State.swapTable_stDcLink (s : State) (i : Quad) :
    (s.swapTable i).chc.stDcLink = s.chc.stDcLink := by
  unfold State.swapTable
  dsimp only
  split <;> simp

@[simp] theorem State.swapCarrier_stDcLink (s : State) : s.swapCarrier.chc.stDcLink = s.chc.stDcLink := by
  unfold State.swapCarrier
  split <;> simp

/-- The DC-link record in force after a swap: the staged one, or with none staged the old one (R99). -/
def State.dcAfterSwap (s : State) : DcRec := (s.chc.stDcLink.map Staged.value).getD s.dls.dc

theorem State.swapDcLink_dc (s : State) : s.swapDcLink.dls.dc = s.dcAfterSwap := by
  unfold State.swapDcLink State.dcAfterSwap
  split <;> simp [Dls.withRecord, *]

theorem State.chcBoundary_dc (applied : Chan → Option Entry) (s : State) :
    (State.chcBoundary applied s).dls.dc = s.dcAfterSwap := by
  have tables (t : State) : (Quad.all.foldl State.swapTable t).chc.stDcLink = t.chc.stDcLink :=
    foldl_keeps (fun u : State => u.chc.stDcLink) _ State.swapTable_stDcLink _ t
  simp [State.chcBoundary, State.swapDcLink_dc, State.dcAfterSwap, tables]

theorem State.boundary_dc (chcFirst : Bool) (s : State) :
    (State.boundary chcFirst s).dls.dc = s.dcAfterSwap := by
  unfold State.boundary
  dsimp only
  split <;> simp [State.chcBoundary_dc, State.dcAfterSwap]

@[simp] theorem State.boundary_link_r (chcFirst : Bool) (s : State) :
    (State.boundary chcFirst s).link.r = s.link.r := by
  unfold State.boundary
  dsimp only
  split <;> simp

/-- A boundary of running carriers keeps udc and r and brings the staged DC-link record into force. -/
theorem execServoBoundary_running {s : State} (hheld : s.crw.held = false) (hrun : s.mod.running = true) :
    ∃ u, execServoBoundary s = .next u ∧ u.link.udc = s.link.udc ∧ u.link.r = s.link.r
      ∧ u.dls.dc = s.dcAfterSwap :=
  ⟨_, by simp only [execServoBoundary, State.live, hheld, hrun, State.finish]; rfl,
    by simp, by simp, by simp [State.boundary_dc, State.dcAfterSwap]⟩

/-- Under the reset input, or with the carriers stopped, no boundary falls (R1, R186). -/
theorem execServoBoundary_stopped {s : State} (h : ¬ (s.crw.held = false ∧ s.mod.running = true)) :
    execServoBoundary s = .next s :=
  State.live_next fun hheld => if_neg fun hrun => h ⟨hheld, hrun⟩

/-! ### The DC sample -/

theorem Dls.sample_dc (d : Dls) (udc : Nat) : (d.sample udc).dc = d.dc := by
  have energy : d.updateEnergy.dc = d.dc := by
    simp only [Dls.updateEnergy]
    generalize d.e + _ - _ = e
    split <;> rfl
  have chopper (x : Dls) : (x.switchChopper udc).dc = x.dc := by
    unfold Dls.switchChopper
    (repeat' split) <;> rfl
  simp [Dls.sample, chopper, energy]

/-- A sample of running carriers takes the new udc into the link record, whatever it trips. -/
theorem execDcSample_running {s : State} (raw : BitVec 12) (hheld : s.crw.held = false)
    (hrun : s.mod.running = true) :
    ∃ u, execDcSample raw s = .next u ∧ u.link = s.link.sample (linkVoltage raw.toNat s.dls.dc.gU)
      ∧ u.dls.dc = s.dls.dc := by
  simp only [execDcSample, State.live, hheld, hrun, State.finish]
  refine ⟨_, rfl, ?_, ?_⟩
  · (repeat' split) <;> simp
  · (repeat' split) <;> simp [Dls.sample_dc]

theorem execDcSample_stopped {s : State} (raw : BitVec 12)
    (h : ¬ (s.crw.held = false ∧ s.mod.running = true)) : execDcSample raw s = .next s :=
  State.live_next fun hheld => if_neg fun hrun => h ⟨hheld, hrun⟩

/-- The model's saturated division is the manual's shift and sat16: a code and a gain are never negative (R27). -/
theorem linkVoltage_eq_sat16 (raw gU : Nat) :
    (linkVoltage raw gU : Int) = sat16 (sra ((raw : Int) * gU + 128) 8) := by
  have cast : ((raw * gU : Nat) : Int) = (raw : Int) * gU := Nat.cast_mul raw gU
  simp only [linkVoltage, sat16, sra, ← cast]
  omega

theorem linkVoltage_le (raw gU : Nat) : linkVoltage raw gU ≤ 32767 := Nat.min_le_left _ _

theorem Link.sample_udc (k : Link) (udc : Nat) : (k.sample udc).udc = udc := rfl

theorem Link.sample_r_high (k : Link) {udc : Nat} (h : 1024 ≤ udc) : (k.sample udc).r = 2 ^ 30 / udc := if_pos h

theorem Link.sample_r_low (k : Link) {udc : Nat} (h : udc < 1024) : (k.sample udc).r = k.r :=
  if_neg (Nat.not_le.2 h)

/-- The quotient of R28 is the floor of 2^30 / udc. -/
theorem reciprocal_floor {udc : Nat} (h : 1024 ≤ udc) :
    2 ^ 30 / udc * udc ≤ 2 ^ 30 ∧ 2 ^ 30 < (2 ^ 30 / udc + 1) * udc :=
  ⟨Nat.div_mul_le_self _ _, (Nat.div_lt_iff_lt_mul (by omega)).1 (Nat.lt_succ_self _)⟩

/-- For udc in 1024..32767 the reciprocal lies in the range of R28. -/
theorem reciprocal_range {udc : Nat} (lo : 1024 ≤ udc) (hi : udc ≤ 32767) :
    32769 ≤ 2 ^ 30 / udc ∧ 2 ^ 30 / udc ≤ 1048576 := by
  constructor
  · rw [Nat.le_div_iff_mul_le (by omega)]
    omega
  · exact Nat.div_le_of_le_mul (by omega)

/-- A sample with udc up to 32767 keeps udc and r in their ranges. -/
theorem Link.sample_safe {k : Link} {udc : Nat} (hi : udc ≤ 32767) (hr : 32769 ≤ k.r ∧ k.r ≤ 1048576) :
    (k.sample udc).udc ≤ 32767 ∧ 32769 ≤ (k.sample udc).r ∧ (k.sample udc).r ≤ 1048576 := by
  refine ⟨hi, ?_⟩
  rcases Nat.lt_or_ge udc 1024 with low | high
  · rwa [k.sample_r_low low]
  · rw [k.sample_r_high high]
    exact reciprocal_range high hi

/-! ### What any command does to udc, r and gU -/

/-- A command keeps the three values, samples the link, swaps a DC-link record in, or resets them. -/
theorem exec_link_cases {i : Instr} {s t : State} (h : exec i s = .next t) :
    s.SameLink t
    ∨ (∃ raw, i = .dcSample raw ∧ t.link = s.link.sample (linkVoltage raw.toNat s.dls.dc.gU)
        ∧ t.dls.dc = s.dls.dc)
    ∨ (i = .servoBoundary ∧ t.link.udc = s.link.udc ∧ t.link.r = s.link.r
        ∧ ∃ x, s.chc.stDcLink = some x ∧ t.dls.dc = x.value)
    ∨ (IsReset i ∧ t.LinkReset) := by
  cases i with
  | hardwareReset =>
    cases h
    exact .inr (.inr (.inr ⟨.inl rfl, s.hardReset_linkReset _ _⟩))
  | hardwareResetRelease straps =>
    rw [exec, execHardwareResetRelease] at h
    split at h <;> cases h
    · exact .inr (.inr (.inr ⟨.inr (.inr ⟨straps, rfl⟩), s.hardReset_linkReset _ _⟩))
    · exact .inl (.refl s)
  | softReset =>
    rw [exec, execSoftReset, State.window] at h
    split at h <;> cases h
    · exact .inl (.refl s)
    · exact .inr (.inr (.inr ⟨.inr (.inl rfl), s.softResetValues_linkReset⟩))
  | dcSample raw =>
    rw [exec] at h
    by_cases hlive : s.crw.held = false ∧ s.mod.running = true
    · obtain ⟨u, hu, hlink, hdc⟩ := execDcSample_running raw hlive.1 hlive.2
      cases hu.symm.trans h
      exact .inr (.inl ⟨raw, rfl, hlink, hdc⟩)
    · cases (execDcSample_stopped raw hlive).symm.trans h
      exact .inl (.refl s)
  | servoBoundary =>
    rw [exec] at h
    by_cases hlive : s.crw.held = false ∧ s.mod.running = true
    · obtain ⟨u, hu, hudc, hr, hdc⟩ := execServoBoundary_running hlive.1 hlive.2
      cases hu.symm.trans h
      unfold State.dcAfterSwap at hdc
      cases hst : s.chc.stDcLink with
      | none => exact .inl ⟨hudc, hr, by rw [hdc, hst]; rfl⟩
      | some x => exact .inr (.inr (.inl ⟨rfl, hudc, hr, x, rfl, by rw [hdc, hst]; rfl⟩))
    · cases (execServoBoundary_stopped hlive).symm.trans h
      exact .inl (.refl s)
  | _ => exact .inl (exec_keepsLink rfl s t h)

/-- Every command keeps udc and r in their ranges (R27, R28). -/
theorem exec_keeps_linkSafe {i : Instr} {s t : State} (h : exec i s = .next t) (hs : s.LinkSafe) : t.LinkSafe := by
  obtain ⟨hudc, hr⟩ := hs
  rcases exec_link_cases h with ⟨eu, er, _⟩ | ⟨raw, _, hlink, _⟩ | ⟨_, eu, er, _⟩ | ⟨_, eu, er, _⟩
  · simpa only [State.LinkSafe, eu, er] using And.intro hudc hr
  · simpa only [State.LinkSafe, hlink] using Link.sample_safe (linkVoltage_le _ _) hr
  · simpa only [State.LinkSafe, eu, er] using And.intro hudc hr
  · simp only [State.LinkSafe, eu, er]
    decide

/-! ### Time -/

theorem State.tickCarriers_link_r (s : State) : s.tickCarriers.link.r = s.link.r := by
  simp only [State.tickCarriers]
  (repeat' split) <;> rfl

theorem Dls.tick_dc (d : Dls) : d.tick.dc = d.dc := by
  unfold Dls.tick
  split <;> rfl

theorem State.tick_sameLink (s : State) : s.SameLink s.tick := by
  simp [State.SameLink, State.tick, State.tickCarriers_link_r, Dls.tick_dc]

theorem State.enqueue_sameLink (s : State) (i : Instr) : s.SameLink (s.enqueue i) := ⟨rfl, rfl, rfl⟩

theorem State.idle_sameLink (s : State) : s.SameLink s.idle := by
  simp only [State.idle]
  generalize s.due.length + _ = n
  (repeat' split)
  · exact .refl s
  · exact s.tick_sameLink
  · exact .of_eq (by simp) (by simp)
  · exact s.enqueue_sameLink _
  · exact .of_eq (by simp) (by simp)

/-! ### The DC-link record of an order -/

theorem bodyField_le (o : Order) (n : Nat) : bodyField o n ≤ 65535 := by
  have bits_le (w : Word) (lo : Nat) : bits w lo 16 ≤ 65535 :=
    Nat.le_of_lt_succ (Nat.mod_lt _ (by decide))
  simp only [bodyField]
  split
  · exact bits_le _ 0
  · exact bits_le _ 16

/-! ### The DC link -/

/-- Where udc, r and gU of the state after a command come from. -/
theorem exec_link_sources {i : Instr} {s t : State} (h : exec i s = .next t) :
    ((t.link.udc = s.link.udc ∧ t.link.r = s.link.r) ∨ (∃ r, i = .dcSample r)
      ∨ (t.link.udc = 0 ∧ t.link.r = 53687 ∧ IsReset i))
    ∧ (t.dls.dc.gU = s.dls.dc.gU
      ∨ (i = .servoBoundary ∧ ∃ x, s.chc.stDcLink = some x ∧ t.dls.dc.gU = x.value.gU)
      ∨ (t.dls.dc.gU = 2048 ∧ IsReset i)) := by
  rcases exec_link_cases h with ⟨eu, er, eg⟩ | ⟨raw, hi, _, hdc⟩ | ⟨hi, eu, er, x, hx, hdc⟩ | ⟨hi, eu, er, eg⟩
  · exact ⟨.inl ⟨eu, er⟩, .inl eg⟩
  · exact ⟨.inr (.inl ⟨raw, hi⟩), .inl (by rw [hdc])⟩
  · exact ⟨.inl ⟨eu, er⟩, .inr (.inl ⟨hi, x, hx, by rw [hdc]⟩)⟩
  · exact ⟨.inr (.inr ⟨eu, er, hi⟩), .inr (.inr ⟨eg, hi⟩)⟩

/-- The value, the bound and the reciprocal of a sample (R27, R28). -/
theorem exec_dcSample_values {s : State} (raw : BitVec 12) (hheld : s.crw.held = false)
    (hrun : s.mod.running = true) :
    ∃ u, exec (.dcSample raw) s = .next u
      ∧ (u.link.udc : Int) = sat16 (sra ((raw.toNat : Int) * s.dls.dc.gU + 128) 8) ∧ u.link.udc ≤ 32767
      ∧ (1024 ≤ u.link.udc → u.link.r * u.link.udc ≤ 2 ^ 30 ∧ 2 ^ 30 < (u.link.r + 1) * u.link.udc)
      ∧ (u.link.udc < 1024 → u.link.r = s.link.r) := by
  obtain ⟨u, hu, hlink, _⟩ := execDcSample_running raw hheld hrun
  refine ⟨u, hu, ?_⟩
  rw [hlink]
  refine ⟨linkVoltage_eq_sat16 _ _, linkVoltage_le _ _, fun high => ?_, Link.sample_r_low _⟩
  rw [Link.sample_udc] at high ⊢
  rw [Link.sample_r_high _ high]
  exact reciprocal_floor high

/-- A boundary with a staged DC-link record brings its gU into force (R99). -/
theorem exec_servoBoundary_gU {s t : State} (h : exec .servoBoundary s = .next t) (hheld : s.crw.held = false)
    (hrun : s.mod.running = true) {x : Staged DcRec} (hx : s.chc.stDcLink = some x) :
    t.dls.dc.gU = x.value.gU := by
  obtain ⟨u, hu, _, _, hdc⟩ := execServoBoundary_running hheld hrun
  cases hu.symm.trans h
  rw [hdc, State.dcAfterSwap, hx]
  rfl

theorem exec_reset_linkReset {s t : State}
    (h : exec .hardwareReset s = .next t ∨ (s.Open ∧ exec .softReset s = .next t)) : t.LinkReset := by
  rcases h with hard | ⟨hopen, soft⟩
  · cases hard
    exact s.hardReset_linkReset _ _
  · cases (execSoftReset_open hopen).symm.trans soft
    exact s.softResetValues_linkReset

theorem step_idle_sameLink {s t : State} (hq : s.pending = []) (h : step s = .next t) : s.SameLink t := by
  rw [step, hq] at h
  cases h
  exact s.idle_sameLink

/-- Settles O34: every command's effect on udc, r and gU by `exec_link_cases`, and time alone by the idle step. -/
theorem dcLinkValues : Obligations.DcLinkValues := by
  unfold Obligations.DcLinkValues
  intro s raw i t o
  refine ⟨bodyField_le o 0, exec_dcSample_values raw, fun h => ?_, exec_reset_linkReset, step_idle_sameLink⟩
  obtain ⟨hvalues, hgain⟩ := exec_link_sources h
  refine ⟨hvalues, hgain, ?_, exec_keeps_linkSafe h⟩
  rintro rfl hheld hrun x hx
  exact exec_servoBoundary_gU h hheld hrun hx

end Sys2Proof.Machine

namespace Sys2Proof.Machine

/-! ## The current loop: limits and stage results (R39 to R61)

First the clamps, the square root and the interpolation that several stages share, then the field table and the sine
table, and then the stages in the order of Machine/Loop.lean. -/

/-! ### Clamps -/

theorem clampSym_of_lt {x m : Int} (hm : 0 ≤ m) (h : x < -m) : clampSym x m = -m := by
  rw [clampSym, min_eq_left (by omega), max_eq_left h.le]

theorem clampSym_of_within {x m : Int} (hlo : -m ≤ x) (hhi : x ≤ m) : clampSym x m = x := by
  rw [clampSym, min_eq_left hhi, max_eq_right hlo]

theorem clampSym_of_gt {x m : Int} (hm : 0 ≤ m) (h : m < x) : clampSym x m = m := by
  rw [clampSym, min_eq_right h.le, max_eq_right (by omega)]

theorem clampSym_natAbs_le (x : Int) (m : Nat) : (clampSym x m).natAbs ≤ m := by
  unfold clampSym
  omega

@[simp] theorem clampSym_zero (x : Int) : clampSym x (0 : Nat) = 0 :=
  Int.natAbs_eq_zero.1 (Nat.le_zero.1 (clampSym_natAbs_le x 0))

theorem sat16_eq_clampSym (x : Int) : sat16 x = clampSym x 32767 := rfl

theorem sat16_natAbs_le (x : Int) : (sat16 x).natAbs ≤ 32767 := clampSym_natAbs_le x 32767

theorem sat16_of_natAbs_le {x : Int} (h : x.natAbs ≤ 32767) : sat16 x = x :=
  clampSym_of_within (by omega) (by omega)

/-! ### The integer square root and the circle of a limit -/

/-- Each bit keeps the root between r and r + 2^b. -/
theorem isqrtFrom_bounds {x : Nat} (b : Nat) {r : Nat} (lo : r ^ 2 ≤ x) (hi : x < (r + 2 ^ b) ^ 2) :
    isqrtFrom x b r ^ 2 ≤ x ∧ x < (isqrtFrom x b r + 1) ^ 2 := by
  induction b generalizing r with
  | zero => exact ⟨lo, hi⟩
  | succ b ih =>
    have double : r + 2 ^ (b + 1) = r + 2 ^ b + 2 ^ b := by ring
    rw [double] at hi
    rw [isqrtFrom]
    split
    next htake => exact ih (by rwa [sq]) hi
    next hleave => exact ih lo (by rw [sq]; exact Nat.lt_of_not_le hleave)

/-- isqrt floors: the root is the greatest integer whose square is at most x. -/
theorem isqrt_bounds (x : Nat) : isqrt x ^ 2 ≤ x ∧ x < (isqrt x + 1) ^ 2 := by
  refine isqrtFrom_bounds _ (Nat.zero_le x) ?_
  calc x < 2 ^ (x.log2 + 1) := Nat.lt_log2_self
    _ ≤ 2 ^ ((x.log2 / 2 + 1) * 2) := Nat.pow_le_pow_right (by decide) (by omega)
    _ = (0 + 2 ^ (x.log2 / 2 + 1)) ^ 2 := by rw [Nat.zero_add, Nat.pow_mul]

theorem isqrt_le_of_le_sq {x r : Nat} (h : x ≤ r ^ 2) : isqrt x ≤ r :=
  (Nat.pow_le_pow_iff_left (by decide)).1 ((isqrt_bounds x).1.trans h)

@[simp] theorem isqrt_zero : isqrt 0 = 0 := rfl

/-- The room that the first component leaves for the second one is what keeps the pair in the circle (R49, R55). -/
theorem clampSym_isqrt_in_circle {a : Int} {r : Nat} (ha : a.natAbs ≤ r) (y : Int) :
    a ^ 2 + clampSym y (isqrt (r ^ 2 - a.natAbs ^ 2) : Nat) ^ 2 ≤ (r : Int) ^ 2 := by
  have room := (isqrt_bounds (r ^ 2 - a.natAbs ^ 2)).1
  have inside := Nat.pow_le_pow_left (clampSym_natAbs_le y (isqrt (r ^ 2 - a.natAbs ^ 2))) 2
  have radius := Nat.pow_le_pow_left ha 2
  rw [← Int.natAbs_sq a, ← Int.natAbs_sq (clampSym _ _)]
  exact_mod_cast (by omega)

/-! ### Interpolation -/

/-- A rounded interpolation over d steps stays between its two ends (R43, R48). -/
theorem interpolation_between (a b : Int) {t d half : Int} (ht : 0 ≤ t) (htd : t < d) (hh : 0 ≤ half)
    (hd : half < d) :
    min a b ≤ a + ((b - a) * t + half) / d ∧ a + ((b - a) * t + half) / d ≤ max a b := by
  have hpos : 0 < d := ht.trans_lt htd
  rcases le_total a b with rising | falling
  · have lo : 0 ≤ ((b - a) * t + half) / d :=
      Int.ediv_nonneg (add_nonneg (mul_nonneg (by omega) ht) hh) hpos.le
    have hi : ((b - a) * t + half) / d < b - a + 1 :=
      (Int.ediv_lt_iff_lt_mul hpos).2 (by nlinarith)
    omega
  · have lo : b - a ≤ ((b - a) * t + half) / d := (Int.le_ediv_iff_mul_le hpos).2 (by nlinarith)
    have hi : ((b - a) * t + half) / d < 1 := (Int.ediv_lt_iff_lt_mul hpos).2 (by nlinarith)
    omega

/-! ### The field table (R48) -/

/-- The breakpoints ascend. -/
def FieldTable.Ascending (k : FieldTable) : Prop := k.Pairwise (fun a b => a.1 < b.1)

theorem fieldLookup_of_le_head {a : Nat × Int} {rest : FieldTable} {key : Nat} (h : key ≤ a.1) :
    fieldLookup (a :: rest) key = a.2 := by
  cases rest with
  | nil => rfl
  | cons b rest => simp [fieldLookup, h]

/-- From the second breakpoint on, the first one has no part in the lookup. -/
theorem fieldLookup_tail {a b : Nat × Int} {rest : FieldTable} {key : Nat} (hab : a.1 < b.1) (h : b.1 ≤ key) :
    fieldLookup (a :: b :: rest) key = fieldLookup (b :: rest) key := by
  simp only [fieldLookup]
  rw [if_neg (by omega), if_neg (by omega)]

theorem fieldLookup_of_getLast_le {k : FieldTable} (hk : k.Ascending) {a : Nat × Int} {key : Nat}
    (hlast : k.getLast? = some a) (h : a.1 ≤ key) : fieldLookup k key = a.2 := by
  induction k with
  | nil => cases hlast
  | cons x k ih =>
    cases k with
    | nil => cases hlast; rfl
    | cons y rest =>
      obtain ⟨hx, hrest⟩ := List.pairwise_cons.1 hk
      rw [List.getLast?_cons_cons] at hlast
      have hy : y.1 ≤ a.1 := by
        rcases List.mem_cons.1 (List.mem_of_getLast? hlast) with rfl | hmem
        · exact le_rfl
        · exact ((List.pairwise_cons.1 hrest).1 a hmem).le
      rw [fieldLookup_tail (hx y (by simp)) (hy.trans h)]
      exact ih hrest hlast

/-- The interpolation between a breakpoint a and the next one b. -/
def interpolate (a b : Nat × Int) (key : Nat) : Int :=
  a.2 + ((b.2 - a.2) * ((key : Int) - a.1) + ((b.1 - a.1) / 2 : Nat)) / ((b.1 : Int) - a.1)

theorem fieldLookup_of_between_first {a b : Nat × Int} {rest : FieldTable} {key : Nat} (ha : a.1 ≤ key)
    (hb : key < b.1) : fieldLookup (a :: b :: rest) key = interpolate a b key := by
  rcases ha.eq_or_lt with at_first | above
  · have half : (((b.1 - a.1) / 2 : Nat) : Int) / ((b.1 : Int) - a.1) = 0 :=
      Int.ediv_eq_zero_of_lt (by omega) (by omega)
    rw [fieldLookup_of_le_head at_first.ge, interpolate, ← at_first, sub_self, mul_zero, zero_add, half, add_zero]
  · simp [fieldLookup, interpolate, not_le.2 above, hb]

theorem fieldLookup_of_between {k : FieldTable} (hk : k.Ascending) {i : Nat} {a b : Nat × Int} {key : Nat}
    (hi : k[i]? = some a) (hnext : k[i + 1]? = some b) (ha : a.1 ≤ key) (hb : key < b.1) :
    fieldLookup k key = interpolate a b key := by
  induction i generalizing k with
  | zero =>
    match k, hi, hnext with
    | x :: y :: rest, rfl, rfl => exact fieldLookup_of_between_first ha hb
  | succ i ih =>
    match k, hi, hnext with
    | x :: y :: rest, hi, hnext =>
      obtain ⟨hx, hrest⟩ := List.pairwise_cons.1 hk
      rw [List.getElem?_cons_succ] at hi hnext
      have hy : y.1 ≤ a.1 := by
        rcases List.mem_cons.1 (List.mem_of_getElem? hi) with rfl | hmem
        · exact le_rfl
        · exact ((List.pairwise_cons.1 hrest).1 a hmem).le
      rw [fieldLookup_tail (hx y (by simp)) (hy.trans ha)]
      exact ih hrest hi hnext

theorem interpolate_between {a b : Nat × Int} {key : Nat} (ha : a.1 ≤ key) (hb : key < b.1) :
    min a.2 b.2 ≤ interpolate a b key ∧ interpolate a b key ≤ max a.2 b.2 :=
  interpolation_between a.2 b.2 (by omega) (by omega) (by omega) (by omega)

/-! ### The sine table (R43) -/

theorem sineQuarter_natAbs_le (n : Nat) : (sineQuarter.getD n 0).natAbs ≤ 32767 := by
  have entries : ∀ v ∈ sineQuarter, v.natAbs ≤ 32767 := by decide +kernel
  rw [List.getD_eq_getElem?_getD]
  cases h : sineQuarter[n]? with
  | none => simp
  | some v => exact entries v (List.mem_of_getElem? h)

theorem sineT_first_quarter {n : Nat} (h : n ≤ 256) : sineT n = sineQuarter.getD n 0 := by
  simp only [sineT, Nat.mod_eq_of_lt (show n < 1024 by omega), if_pos h]

theorem sineT_second_quarter {n : Nat} (lo : 256 ≤ n) (hi : n ≤ 512) :
    sineT n = sineQuarter.getD (512 - n) 0 := by
  rcases lo.eq_or_lt with rfl | above
  · rfl
  · simp only [sineT, Nat.mod_eq_of_lt (show n < 1024 by omega), if_neg (not_le.2 above), if_pos hi]

theorem sineT_third_quarter {n : Nat} (lo : 512 ≤ n) (hi : n ≤ 768) :
    sineT n = -sineQuarter.getD (n - 512) 0 := by
  rcases lo.eq_or_lt with rfl | above
  · rfl
  · simp only [sineT, Nat.mod_eq_of_lt (show n < 1024 by omega), if_neg (show ¬ n ≤ 256 by omega),
      if_neg (not_le.2 above), if_pos hi]

theorem sineT_fourth_quarter {n : Nat} (lo : 768 ≤ n) (hi : n ≤ 1024) :
    sineT n = -sineQuarter.getD (1024 - n) 0 := by
  rcases lo.eq_or_lt with rfl | above
  · rfl
  rcases hi.eq_or_lt with rfl | below
  · rfl
  · simp only [sineT, Nat.mod_eq_of_lt below, if_neg (show ¬ n ≤ 256 by omega),
      if_neg (show ¬ n ≤ 512 by omega), if_neg (not_le.2 above)]

/-- The table is odd about n = 512. -/
theorem sineT_half_turn {n : Nat} (h : n ≤ 512) : sineT (512 + n) = -sineT n := by
  rcases le_total n 256 with hlow | hhigh
  · rw [sineT_first_quarter hlow, sineT_third_quarter (by omega) (by omega), Nat.add_sub_cancel_left]
  · rw [sineT_second_quarter hhigh h, sineT_fourth_quarter (by omega) (by omega),
      show 1024 - (512 + n) = 512 - n by omega]

/-- The table is even about n = 256. -/
theorem sineT_mirror {n : Nat} (h : n ≤ 512) : sineT (512 - n) = sineT n := by
  rcases le_total n 256 with hlow | hhigh
  · rw [sineT_first_quarter hlow, sineT_second_quarter (by omega) (by omega), Nat.sub_sub_self h]
  · rw [sineT_second_quarter hhigh h, sineT_first_quarter (by omega)]

theorem sineT_natAbs_le (n : Nat) : (sineT n).natAbs ≤ 32767 := by
  dsimp only [sineT]
  (repeat' split) <;> simp only [Int.natAbs_neg, sineQuarter_natAbs_le]

/-- Each entry of the first quarter is the integer nearest to 32767 sin(2πn/1024). -/
theorem sineT_nearest {n : Nat} (h : n ≤ 256) :
    2 * (10 ^ 20 * sineT n - 32767 * sineSeries n).natAbs < 10 ^ 20 := by
  revert n
  decide +kernel

theorem sine_natAbs_le (theta : Nat) : (sine theta).natAbs ≤ 32767 := by
  have hthis := sineT_natAbs_le (theta / 64)
  have hnext := sineT_natAbs_le (theta / 64 + 1)
  have between := interpolation_between (sineT (theta / 64)) (sineT (theta / 64 + 1))
    (t := (theta % 64 : Nat)) (d := 64) (half := 32) (by omega) (by omega) (by omega) (by omega)
  simp only [sine, sra]
  omega

/-! ### Demands and references (R45 to R50) -/

/-- An entry that is read has passed every check, and its limit scale is then a minimum with 1.0 (R134). -/
theorem readEntry_ls_le {c : Chan} {ws rest : List Word} {e : Entry} {l : Nat}
    (h : readEntry c ws = some (e, rest)) (hl : e.ls = some l) : l ≤ 32768 := by
  unfold readEntry at h
  dsimp only at h
  (repeat' split at h) <;> cases h
  simp only [Option.map_eq_some_iff] at hl
  obtain ⟨w, _, rfl⟩ := hl
  exact Nat.min_le_right _ _

theorem rampToward_of_within {x : Int} {step : Nat} (h : x.natAbs ≤ step) : rampToward x step = 0 := if_pos h

theorem rampToward_of_gt {x : Int} {step : Nat} (h : (step : Int) < x) : rampToward x step = x - step := by
  rw [rampToward, if_neg (by omega), if_pos (by omega)]

theorem rampToward_of_lt {x : Int} {step : Nat} (h : x < -(step : Int)) : rampToward x step = x + step := by
  rw [rampToward, if_neg (by omega), if_neg (by omega)]

theorem JobIn.idRef_natAbs_le (j : JobIn) : j.idRef.natAbs ≤ min j.limits.idmax j.imaxEff :=
  clampSym_natAbs_le _ _

theorem JobIn.refs_in_circle (j : JobIn) : j.idRef ^ 2 + j.iqRef ^ 2 ≤ (j.imaxEff : Int) ^ 2 :=
  clampSym_isqrt_in_circle (j.idRef_natAbs_le.trans (Nat.min_le_right _ _)) _

theorem JobIn.iqRef_natAbs_le (j : JobIn) : j.iqRef.natAbs ≤ j.imaxEff :=
  (clampSym_natAbs_le _ _).trans (isqrt_le_of_le_sq (Nat.sub_le _ _))

/-- With no room in the circle there is no reference. -/
theorem JobIn.refs_eq_zero (j : JobIn) (h : j.imaxEff = 0) : j.idRef = 0 ∧ j.iqRef = 0 := by
  have hd := j.idRef_natAbs_le
  have hq := j.iqRef_natAbs_le
  omega

/-- A limit scale of at most 1 never widens the current limit (R49). -/
theorem JobIn.imaxEff_le (j : JobIn) (h : ∀ l, j.ls = some l → l ≤ 32768) : j.imaxEff ≤ j.limits.imax := by
  have scale : j.ls.getD 32768 ≤ 32768 := by
    cases hl : j.ls with
    | none => exact le_rfl
    | some l => exact h l hl
  exact Nat.div_le_of_le_mul (by rw [Nat.mul_comm]; exact Nat.mul_le_mul_right _ scale)

theorem JobIn.limI_iff (j : JobIn) : j.limI = true ↔ j.idRef ≠ j.idDem ∨ j.iqRef ≠ j.iqDem := by
  simp [JobIn.limI]

/-! ### The voltage limit (R55) -/

theorem JobIn.vd_natAbs_le (j : JobIn) : j.vd.natAbs ≤ j.vMax := clampSym_natAbs_le _ _

theorem JobIn.vq_natAbs_le (j : JobIn) : j.vq.natAbs ≤ j.vMax :=
  (clampSym_natAbs_le _ _).trans (isqrt_le_of_le_sq (Nat.sub_le _ _))

theorem JobIn.voltages_in_circle (j : JobIn) : j.vd ^ 2 + j.vq ^ 2 ≤ (j.vMax : Int) ^ 2 :=
  clampSym_isqrt_in_circle j.vd_natAbs_le _

/-- A d voltage on the circle leaves nothing to the q voltage. -/
theorem JobIn.vq_eq_zero (j : JobIn) (h : j.vd.natAbs = j.vMax) : j.vq = 0 := by
  rw [JobIn.vq, h, Nat.sub_self, isqrt_zero, clampSym_zero]

/-- Without a link voltage there is no voltage. -/
theorem JobIn.voltages_eq_zero (j : JobIn) (h : j.udc = 0) : j.vMax = 0 ∧ j.vd = 0 ∧ j.vq = 0 := by
  have hmax : j.vMax = 0 := by simp [JobIn.vMax, h]
  have hd := j.vd_natAbs_le
  have hq := j.vq_natAbs_le
  omega

theorem JobIn.vMax_le (j : JobIn) (hm : j.limits.mlim ≤ 32767) (hu : j.udc ≤ 32767) : j.vMax ≤ 32766 := by
  have product : j.limits.mlim * j.udc ≤ 32767 * 32767 := Nat.mul_le_mul hm hu
  unfold JobIn.vMax
  omega

theorem JobIn.limV_iff (j : JobIn) : j.limV = true ↔ j.vd ≠ j.vdU ∨ j.vq ≠ j.vqU := by
  simp [JobIn.limV]

/-- Settles O54: the references and the voltages are pairs of clamps whose second one is bounded by the root of what
the first one leaves, so `clampSym_isqrt_in_circle` holds both in their circles. -/
theorem currentAndVoltageLimits : Obligations.CurrentAndVoltageLimits := by
  unfold Obligations.CurrentAndVoltageLimits
  intro j s x o c ws rest e l
  have root := isqrt_bounds (j.imaxEff ^ 2 - j.idRef.natAbs ^ 2)
  refine ⟨readEntry_ls_le, fun x m hm => ⟨clampSym_of_lt hm, clampSym_of_within, clampSym_of_gt hm⟩,
    sat16_eq_clampSym, rfl, fun k key hk => ⟨?empty, ?head, fun a => fieldLookup_of_getLast_le hk, ?between⟩,
    fun x step => ⟨rampToward_of_within, rampToward_of_gt, rampToward_of_lt⟩, rfl, rfl,
    ⟨rfl, rfl, root.1, root.2, rfl, j.limI_iff, j.refs_eq_zero, j.idRef_natAbs_le, j.refs_in_circle⟩,
    ⟨rfl, rfl, ⟨_, (isqrt_bounds _).1, (isqrt_bounds _).2, rfl⟩, j.limV_iff, j.vq_eq_zero, j.voltages_eq_zero,
      j.vMax_le, j.voltages_in_circle⟩,
    ⟨rfl, rfl, rfl, rfl, rfl, rfl, rfl⟩, rfl, rfl, rfl, Nat.min_le_right _ _, Nat.min_le_right _ _,
    Nat.min_le_right _ _, rfl, rfl, rfl⟩
  case empty =>
    rintro rfl
    rfl
  case head =>
    intro a hhead h
    obtain ⟨tail, rfl⟩ := List.head?_eq_some_iff.1 hhead
    exact fieldLookup_of_le_head h
  case between =>
    intro i a b hi hnext ha hb
    have lookup := fieldLookup_of_between hk hi hnext ha hb
    exact ⟨lookup, lookup ▸ interpolate_between ha hb⟩

/-! ### Angles and errors (R42, R51) -/

/-- The upper half of an angle moved by a whole number, modulo a turn. -/
theorem hiAngle_add_ofInt (a : Word) (d : Int) :
    (hiAngle (a + BitVec.ofInt 32 d) : Int) = ((a.toNat : Int) + d) % 2 ^ 32 / 65536 := by
  simp only [hiAngle, BitVec.toNat_add, BitVec.toNat_ofInt]
  omega

theorem JobIn.overItrip_iff (j : JobIn) : j.overItrip = true ↔
    j.limits.itrip < j.ia.natAbs ∨ j.limits.itrip < j.ib.natAbs ∨ j.limits.itrip < j.ic.natAbs := by
  simp only [JobIn.overItrip, Bool.or_eq_true, decide_eq_true_eq, Nat.cast_lt, or_assoc]

theorem JobIn.eD_natAbs_le (j : JobIn) (h : j.limits.idmax ≤ 32767) : j.eD.natAbs ≤ 65534 := by
  have ref := j.idRef_natAbs_le
  have current : j.id.natAbs ≤ 32767 := sat16_natAbs_le _
  unfold JobIn.eD
  omega

theorem JobIn.eQ_natAbs_le (j : JobIn) (h : j.limits.imax ≤ 32767) (hls : ∀ l, j.ls = some l → l ≤ 32768) :
    j.eQ.natAbs ≤ 65534 := by
  have ref := j.iqRef_natAbs_le
  have limit := j.imaxEff_le hls
  have current : j.iq.natAbs ≤ 32767 := sat16_natAbs_le _
  unfold JobIn.eQ
  omega

/-- The sum whose scaling gives iβ, from two saturated currents (R41). -/
theorem JobIn.ia_add_two_ib_bounds (j : JobIn) : -98301 ≤ j.ia + 2 * j.ib ∧ j.ia + 2 * j.ib ≤ 98301 := by
  have ha : j.ia.natAbs ≤ 32767 := sat16_natAbs_le _
  have hb : j.ib.natAbs ≤ 32767 := sat16_natAbs_le _
  omega

/-! ### Anti-windup (R56) -/

theorem sameSign_iff (x y : Int) : sameSign x y = true ↔ 0 < x * y := by
  simp [sameSign, mul_pos_iff]

theorem antiWindup_eq (old new v vU e : Int) :
    antiWindup old new v vU e = if v ≠ vU ∧ 0 < e * vU then old else new := by
  simp [antiWindup, sameSign_iff]

/-! ### Duties (R59, R60) -/

/-- Unsaturated, the two other duties take off twice half of mα, rounded up (R59). -/
theorem phaseDuties_sum {mA mB : Int}
    (hb : (sra (mB * 28378 + 16384) 15 - sra (mA + 1) 1).natAbs ≤ 32767)
    (hc : (-sra (mB * 28378 + 16384) 15 - sra (mA + 1) 1).natAbs ≤ 32767) :
    (phaseDuties mA mB).a + (phaseDuties mA mB).b + (phaseDuties mA mB).c = mA - 2 * sra (mA + 1) 1 := by
  simp only [phaseDuties, sat16_of_natAbs_le hb, sat16_of_natAbs_le hc]
  omega

theorem sub_two_mul_half_up (m : Int) : m - 2 * ((m + 1) / 2) = if m % 2 = 0 then 0 else -1 := by
  split <;> omega

/-- A value of the bank that no value exceeds is their maximum. -/
theorem max_get_eq {m : Bank3 Int} {top : Int} (hmem : ∃ l, m.get l = top) (hle : ∀ l, m.get l ≤ top) :
    max m.a (max m.b m.c) = top := by
  refine le_antisymm (max_le (hle .a) (max_le (hle .b) (hle .c))) ?_
  obtain ⟨l, rfl⟩ := hmem
  cases l <;> simp [Bank3.get]

theorem min_get_eq {m : Bank3 Int} {bottom : Int} (hmem : ∃ l, m.get l = bottom)
    (hle : ∀ l, bottom ≤ m.get l) : min m.a (min m.b m.c) = bottom := by
  refine le_antisymm ?_ (le_min (hle .a) (le_min (hle .b) (hle .c)))
  obtain ⟨l, rfl⟩ := hmem
  cases l <;> simp [Bank3.get]

theorem centredDuties_get {m : Bank3 Int} {top bottom : Int} (htop : ∃ l, m.get l = top)
    (hbottom : ∃ l, m.get l = bottom) (hrange : ∀ l, m.get l ≤ top ∧ bottom ≤ m.get l) (leg : Leg) :
    (centredDuties m).get leg = sat16 (((m.get leg - (top + bottom) / 2) * 18919 + 8192) / 16384) := by
  have hmax := max_get_eq htop fun l => (hrange l).1
  have hmin := min_get_eq hbottom fun l => (hrange l).2
  rw [centredDuties, Bank3.get_map, hmax, hmin]
  rfl

theorem centredDuties_natAbs_le (m : Bank3 Int) (leg : Leg) : ((centredDuties m).get leg).natAbs ≤ 32767 := by
  rw [centredDuties, Bank3.get_map]
  exact sat16_natAbs_le _

/-! ### Compare values (R61) -/

/-- A duty as a compare value, before the minimum pulse. -/
def rawCompare (p : Nat) (duty : Int) : Int := ((p : Int) * (duty + 32768) + 32768) / 65536

theorem rawCompare_range (p : Nat) {duty : Int} (h : duty.natAbs ≤ 32767) :
    0 ≤ rawCompare p duty ∧ rawCompare p duty ≤ p := by
  have lo : (0 : Int) ≤ (p : Int) * (duty + 32768) := mul_nonneg (by omega) (by omega)
  have hi : (p : Int) * (duty + 32768) ≤ (p : Int) * 65535 := mul_le_mul_of_nonneg_left (by omega) (by omega)
  unfold rawCompare
  omega

theorem compareValue_eq (p cmin : Nat) {duty : Int} (h : duty.natAbs ≤ 32767) :
    (compareValue p cmin duty : Int) = if rawCompare p duty < cmin then 0
      else if (p : Int) - cmin < rawCompare p duty then (p : Int) else rawCompare p duty := by
  have range := rawCompare_range p h
  have unfolded : compareValue p cmin duty = if (rawCompare p duty).toNat < cmin then 0
      else if p - cmin < (rawCompare p duty).toNat then p else (rawCompare p duty).toNat := rfl
  rw [unfolded]
  split_ifs <;> omega

theorem compareValue_range (p cmin : Nat) {duty : Int} (h : duty.natAbs ≤ 32767) :
    compareValue p cmin duty ≤ p ∧ (compareValue p cmin duty = 0 ∨ compareValue p cmin duty = p
      ∨ (cmin ≤ compareValue p cmin duty ∧ compareValue p cmin duty + cmin ≤ p)) := by
  have range := rawCompare_range p h
  have value := compareValue_eq p cmin h
  split_ifs at value <;> omega

theorem JobIn.compares_get (j : JobIn) (leg : Leg) : j.compares.get leg
    = compareValue j.p j.cmin ((centredDuties (phaseDuties j.mAlpha j.mBeta)).get leg) :=
  Bank3.get_map _ _ leg

/-- Settles O55: the stages are their formulas, and the ranges follow from the clamps stage by stage. -/
theorem stageResults : Obligations.StageResults := by
  unfold Obligations.StageResults
  intro j mA mB o
  refine ⟨⟨rfl, rfl, rfl, j.overItrip_iff, fun x => ⟨?_, ?_, ?_⟩⟩,
    ⟨hiAngle_add_ofInt _ _, hiAngle_add_ofInt _ _, fun theta _ => ⟨rfl, rfl, sine_natAbs_le theta⟩,
      fun n => sineT_nearest, fun n h => ⟨sineT_half_turn h, sineT_mirror h⟩⟩,
    ⟨rfl, j.ia_add_two_ib_bounds.1, j.ia_add_two_ib_bounds.2, rfl, rfl⟩,
    ⟨rfl, rfl, j.eD_natAbs_le, j.eQ_natAbs_le, rfl, rfl, rfl, rfl, rfl, rfl, Nat.min_le_right _ _,
      Nat.min_le_right _ _, rfl, rfl⟩,
    ⟨rfl, rfl, rfl, rfl⟩, ⟨rfl, rfl, rfl, fun hb hc => ⟨?_, ?_⟩⟩, ?compares, ?minimumPulse,
    antiWindup_eq _ _ _ _ _, antiWindup_eq _ _ _ _ _⟩
  · exact clampSym_of_lt (by decide)
  · exact clampSym_of_within
  · exact clampSym_of_gt (by decide)
  · exact phaseDuties_sum hb hc
  · exact (phaseDuties_sum hb hc).trans (sub_two_mul_half_up mA)
  case compares =>
    intro m leg top bottom htop hbottom hrange duty
    have hduty : duty.natAbs ≤ 32767 := sat16_natAbs_le _
    obtain ⟨lo, hi⟩ := rawCompare_range j.p hduty
    refine ⟨lo, hi, ?_⟩
    rw [j.compares_get, centredDuties_get htop hbottom hrange]
    exact compareValue_eq j.p j.cmin hduty
  case minimumPulse =>
    intro leg
    rw [j.compares_get]
    exact compareValue_range j.p j.cmin (centredDuties_natAbs_le _ leg)

end Sys2Proof.Machine

namespace Sys2Proof.Machine

/-! ## The brake and the DLS state: E, BRAKE_HOT, the chopper and their resets (R34, R117, R120, R121, R123)

Five commands can move DLS's record; all others keep it, and leave a staged DC-link record as it is or stage one whose
on_inc is at least 1. -/

/-! ### A safe brake -/

/-- The clauses of `State.BrakeSafe` about DLS's own record. -/
def Dls.Safe (d : Dls) : Prop :=
  (d.hot = true → d.chopper = false) ∧ (d.chopper = true → d.e < d.dc.eLim) ∧ d.e < d.dc.eLim + d.dc.onInc

/-- The clause of `State.BrakeSafe` about the DC-link record that waits for the boundary. -/
def State.StagedSafe (s : State) : Prop := ∀ x, s.chc.stDcLink = some x → 1 ≤ x.value.onInc

theorem State.brakeSafe_iff (s : State) : s.BrakeSafe ↔ s.dls.Safe ∧ s.StagedSafe := by
  simp only [State.BrakeSafe, Dls.Safe, State.StagedSafe, and_assoc]

theorem State.StagedSafe.of_eq {s t : State} (h : t.chc.stDcLink = s.chc.stDcLink) (hs : s.StagedSafe) :
    t.StagedSafe := fun x hx => hs x (h ▸ hx)

theorem State.StagedSafe.of_none {t : State} (h : t.chc.stDcLink = none) : t.StagedSafe := by
  simp [State.StagedSafe, h]

/-! ### States with the same brake -/

/-- t has the DLS record of s, and a DC-link record staged in it is as safe as in s. -/
def State.SameBrake (s t : State) : Prop := t.dls = s.dls ∧ (s.StagedSafe → t.StagedSafe)

/-- The next state, if a command answers one, has the brake of s. -/
def State.KeepsBrake (s : State) (a : Answered) : Prop := ∀ t, a = .next t → s.SameBrake t

theorem State.SameBrake.refl (s : State) : s.SameBrake s := ⟨rfl, id⟩

theorem State.SameBrake.trans {s t u : State} (h : s.SameBrake t) (k : t.SameBrake u) : s.SameBrake u :=
  ⟨k.1.trans h.1, k.2 ∘ h.2⟩

/-- An operation that leaves the DLS record and the staged DC-link record as they are keeps the brake. -/
theorem State.SameBrake.of_eq {s t : State} (hd : t.dls = s.dls) (hc : t.chc.stDcLink = s.chc.stDcLink) :
    s.SameBrake t := ⟨hd, .of_eq hc⟩

theorem State.SameBrake.brakeSafe {s t : State} (h : s.SameBrake t) (hs : s.BrakeSafe) : t.BrakeSafe := by
  obtain ⟨hdls, hstaged⟩ := s.brakeSafe_iff.1 hs
  exact t.brakeSafe_iff.2 ⟨h.1 ▸ hdls, h.2 hstaged⟩

@[simp] theorem State.keepsBrake_next (s t : State) : s.KeepsBrake (.next t) ↔ s.SameBrake t :=
  ⟨fun h => h t rfl, fun h _ e => Host.Outcome.next.inj e ▸ h⟩

@[simp] theorem State.keepsBrake_fault (s : State) (f : Fault) : s.KeepsBrake (.fault f) := fun _ h => by cases h

@[simp] theorem State.keepsBrake_finish (s t : State) : s.KeepsBrake t.finish ↔ s.SameBrake t := by
  simp [State.finish, State.SameBrake, State.StagedSafe]

theorem State.keepsBrake_live {s : State} {f : State → Answered} (h : s.KeepsBrake (f s)) :
    s.KeepsBrake (s.live f) := by
  unfold State.live
  split
  · exact (s.keepsBrake_next s).2 (.refl s)
  · exact h

theorem State.keepsBrake_window {s : State} {f : State → Answered} (h : s.KeepsBrake (f s)) :
    s.KeepsBrake (s.window f) := by
  unfold State.window
  split
  · exact (s.keepsBrake_next s).2 (.refl s)
  · exact h

theorem onChannel_sameBrake {o : Order} {s : State} {f : Chan → State × Taken}
    (h : ∀ c, s.SameBrake (f c).1) : s.SameBrake (onChannel o s f).1 := by
  unfold onChannel
  split
  · exact h _
  · exact .refl s

theorem onLeader_sameBrake {o : Order} {s : State} {f : Chan → State × Taken}
    (h : ∀ c, s.SameBrake (f c).1) : s.SameBrake (onLeader o s f).1 :=
  onChannel_sameBrake fun c => by
    split
    · exact .refl s
    · exact h c

/-- Around the rule of its kind, a take changes only slots and the walk. -/
theorem State.takeOrder_keepsBrake {s : State} {k : OrderKind} {o : Order}
    {act : Option Nat → State → State × Taken} (h : ∀ (slot : Option Nat) (t : State), t.SameBrake (act slot t).1) :
    s.KeepsBrake (s.takeOrder k o act) := by
  have judged : ∀ slot (t : State), t.SameBrake (t.judge k o (act slot)).1 := fun slot t => by
    unfold State.judge
    split
    · exact .refl t
    · exact h slot t
  refine State.keepsBrake_live ?_
  split
  next x _ =>
    have hold : s.SameBrake (s.holdSlot x) := .of_eq (by simp) (by simp)
    have answer : ∀ (t : State) (r : Taken), t.SameBrake (t.answerTake x r) := fun t _ => .of_eq (by simp) (by simp)
    exact (State.keepsBrake_finish _ _).2 ((hold.trans (judged x.slot _)).trans (answer _ _))
  next => exact (State.keepsBrake_finish _ _).2 (judged none s)

/-! ### The commands that keep the brake -/

/-- A clock failure leaves the staged DC-link record in place, without the orders that wait for it (R131). -/
@[simp] theorem State.clockFailure_stDcLink (s : State) :
    s.clockFailure.chc.stDcLink = s.chc.stDcLink.map fun x => { x with slots := [] } := by
  simp [State.clockFailure, State.stopExchange]

@[simp] theorem refuse_sameBrake (s : State) (r : Result) : s.SameBrake (refuse s r).1 := .refl s

theorem dcRecOf_onInc_pos (o : Order) : 1 ≤ (dcRecOf o).1.onInc := by
  simp only [dcRecOf, within]
  omega

/-- SET_DC_LINK stages a record whose on_inc the clamp of R171 has made 1 or more. -/
theorem actSetDcLink_sameBrake (o : Order) (slot : Option Nat) (s : State) :
    s.SameBrake (actSetDcLink o slot s).1 := by
  unfold actSetDcLink
  split
  · refine ⟨rfl, fun _ x hx => ?_⟩
    cases hx
    exact dcRecOf_onInc_pos o
  · exact refuse_sameBrake s _

theorem actSetGains_sameBrake (o : Order) (slot : Option Nat) (s : State) :
    s.SameBrake (actSetGains o slot s).1 :=
  onChannel_sameBrake fun c => by split <;> exact .of_eq rfl rfl

theorem actSetLimits_sameBrake (o : Order) (slot : Option Nat) (s : State) :
    s.SameBrake (actSetLimits o slot s).1 :=
  onChannel_sameBrake fun c => by split <;> exact .of_eq rfl rfl

theorem actSetChannelMode_sameBrake (o : Order) (s : State) : s.SameBrake (actSetChannelMode o s).1 :=
  onChannel_sameBrake fun c => by (repeat' split) <;> exact .of_eq (by simp [refuse]) (by simp [refuse])

theorem actLoadFieldTable_sameBrake (o : Order) (slot : Option Nat) (s : State) :
    s.SameBrake (actLoadFieldTable o slot s).1 := by
  unfold actLoadFieldTable
  split <;> exact .of_eq rfl rfl

theorem actSetPair_sameBrake (o : Order) (s : State) : s.SameBrake (actSetPair o s).1 :=
  onChannel_sameBrake fun c => by (repeat' split) <;> exact .of_eq rfl rfl

theorem actClearPair_sameBrake (o : Order) (s : State) : s.SameBrake (actClearPair o s).1 :=
  onChannel_sameBrake fun c => by (repeat' split) <;> exact .of_eq rfl rfl

theorem actSetCarrier_sameBrake (o : Order) (slot : Option Nat) (s : State) :
    s.SameBrake (actSetCarrier o slot s).1 := by
  unfold actSetCarrier
  split <;> exact .of_eq rfl rfl

theorem actSetTripInputs_sameBrake (o : Order) (slot : Option Nat) (s : State) :
    s.SameBrake (actSetTripInputs o slot s).1 := by
  unfold actSetTripInputs
  split <;> exact .of_eq rfl rfl

theorem actCapture_sameBrake (o : Order) (slot : Option Nat) (s : State) :
    s.SameBrake (actCapture o slot s).1 :=
  onChannel_sameBrake fun c => by (repeat' split) <;> exact .of_eq (by simp [refuse]) (by simp [refuse])

theorem actCancel_sameBrake (o : Order) (s : State) : s.SameBrake (actCancel o s).1 := by
  unfold actCancel
  dsimp only
  split <;> exact .of_eq (by simp [refuse]) (by simp [refuse])

theorem beginStart_sameBrake (o : Order) (slot : Option Nat) (c : Chan) (s : State) :
    s.SameBrake (beginStart o slot c s).1 := by
  unfold beginStart
  (repeat' split) <;> exact .of_eq (by simp [refuse]) (by simp [refuse])

theorem actStart_sameBrake (o : Order) (slot : Option Nat) (s : State) : s.SameBrake (actStart o slot s).1 :=
  onLeader_sameBrake fun c => by
    split
    · exact refuse_sameBrake s _
    · exact beginStart_sameBrake o slot c s

theorem actRun_sameBrake (o : Order) (slot : Option Nat) (s : State) : s.SameBrake (actRun o slot s).1 :=
  onLeader_sameBrake fun c => by (repeat' split) <;> exact .of_eq (by simp [refuse]) (by simp [refuse])

theorem beginStop_sameBrake (o : Order) (slot : Option Nat) (c : Chan) (s : State) :
    s.SameBrake (beginStop o slot c s).1 := by
  unfold beginStop
  split <;> exact .of_eq (by simp [refuse]) (by simp [refuse])

theorem actStop_sameBrake (o : Order) (slot : Option Nat) (s : State) : s.SameBrake (actStop o slot s).1 :=
  onLeader_sameBrake fun c => by
    split
    · exact beginStop_sameBrake o slot c s
    · split <;> exact .of_eq (by simp [refuse]) (by simp [refuse])

theorem actDisable_sameBrake (o : Order) (s : State) : s.SameBrake (actDisable o s).1 :=
  onLeader_sameBrake fun c => by (repeat' split) <;> exact .of_eq (by simp [refuse]) (by simp [refuse])

theorem actRelease_sameBrake (o : Order) (s : State) : s.SameBrake (actRelease o s).1 :=
  onLeader_sameBrake fun c => by (repeat' split) <;> exact .of_eq (by simp [refuse]) (by simp [refuse])

/-- A command that neither resets, samples nor swaps keeps the brake. -/
theorem exec_keepsBrake {i : Instr} (h : setsLink i = false) (s : State) : s.KeepsBrake (exec i s) := by
  cases i with
  | hardwareReset | hardwareResetRelease | softReset | dcSample | servoBoundary => cases h
  | lockIndicated | lockTimeout | tickCountOverrun | deadtimeElapsed | conversionComplete | jobComplete
  | referenceZero | blankingEnd | overcurrent | gateFault | sequenceSelect | wordAnswer | readyTimeout
  | requestAfterRelease | tripDumpEnd | orderUnknownKind =>
    rw [exec]
    refine State.keepsBrake_live ?_
    (repeat' split) <;> simp [State.SameBrake, State.StagedSafe]
  | comparatorWindowEnd | softResetRelease | compareEdge | chargePulseEnd | fetchPoint | carrierZero | carrierPeak
  | xtFilteredEdge | directoryReadEnd | sheetFetchEnd | reportWriteEnd | nextPointerReadEnd | headerReadEnd
  | claimWriteEnd | bodyReadEnd | answerWriteEnd | doneWriteEnd | captureWriteEnd =>
    rw [exec]
    refine State.keepsBrake_live ?_
    dsimp only
    (repeat' split) <;> simp [State.SameBrake, State.StagedSafe]
  | go | quiesce | fastStop | regionBaseWrite | noticeWrite | noticeEnableWrite =>
    rw [exec]
    refine State.keepsBrake_window ?_
    (repeat' split) <;> simp [State.SameBrake, State.StagedSafe]
  | urgentUnknownCode code =>
    rw [exec, execUrgentUnknownCode]
    split
    · simp
    · exact State.keepsBrake_window (by simp [State.SameBrake, State.StagedSafe])
  | registerWriteIgnored | permitInactive | permitActive | busGrant =>
    rw [exec]
    simp only [execRegisterWriteIgnored, execPermitInactive, execPermitActive, execBusGrant]
    (repeat' split) <;> simp [State.SameBrake, State.StagedSafe]
  | grantWithdrawn | comparatorInputChange | gateFaultInputChange | xtInputChange =>
    rw [exec]
    simp [execGrantWithdrawn, execComparatorInputChange, execGateFaultInputChange, execXtInputChange,
      State.SameBrake, State.StagedSafe]
  | setGains o => rw [exec]; exact State.takeOrder_keepsBrake (actSetGains_sameBrake o)
  | setLimits o => rw [exec]; exact State.takeOrder_keepsBrake (actSetLimits_sameBrake o)
  | setChannelMode o => rw [exec]; exact State.takeOrder_keepsBrake fun _ => actSetChannelMode_sameBrake o
  | loadFieldTable o => rw [exec]; exact State.takeOrder_keepsBrake (actLoadFieldTable_sameBrake o)
  | setPair o => rw [exec]; exact State.takeOrder_keepsBrake fun _ => actSetPair_sameBrake o
  | clearPair o => rw [exec]; exact State.takeOrder_keepsBrake fun _ => actClearPair_sameBrake o
  | setCarrier o => rw [exec]; exact State.takeOrder_keepsBrake (actSetCarrier_sameBrake o)
  | setDcLink o => rw [exec]; exact State.takeOrder_keepsBrake (actSetDcLink_sameBrake o)
  | setTripInputs o => rw [exec]; exact State.takeOrder_keepsBrake (actSetTripInputs_sameBrake o)
  | start o => rw [exec]; exact State.takeOrder_keepsBrake (actStart_sameBrake o)
  | run o => rw [exec]; exact State.takeOrder_keepsBrake (actRun_sameBrake o)
  | stop o => rw [exec]; exact State.takeOrder_keepsBrake (actStop_sameBrake o)
  | disable o => rw [exec]; exact State.takeOrder_keepsBrake fun _ => actDisable_sameBrake o
  | release o => rw [exec]; exact State.takeOrder_keepsBrake fun _ => actRelease_sameBrake o
  | capture o => rw [exec]; exact State.takeOrder_keepsBrake (actCapture_sameBrake o)
  | cancel o => rw [exec]; exact State.takeOrder_keepsBrake fun _ => actCancel_sameBrake o

/-! ### A record coming into force, and the resets -/

/-- The clamp of R117 makes E at most the new E_lim, and an on_inc of 1 or more leaves it below the bound. -/
theorem Dls.withRecord_safe {d : Dls} {dc : DcRec} (h : d.hot = true → d.chopper = false) (hinc : 1 ≤ dc.onInc) :
    (d.withRecord dc).Safe := by
  refine ⟨fun hot => ?_, fun on => ?_, ?_⟩
  · rcases Bool.or_eq_true_iff.1 hot with old | new
    · simp [Dls.withRecord, h old]
    · simp only [Dls.withRecord, new, Bool.not_true, Bool.and_false]
  · simp only [Dls.withRecord, Bool.and_eq_true, Bool.not_eq_true', decide_eq_false_iff_not, not_le] at on
    exact on.2
  · have clamp : (d.withRecord dc).e ≤ dc.eLim := Nat.min_le_right _ _
    exact Nat.lt_of_le_of_lt clamp (Nat.lt_add_of_pos_right hinc)

/-- DLS after a soft reset, item by item (R117, R121, R123). -/
theorem Dls.softReset_eq (d : Dls) : d.softReset =
    ⟨DcRec.reset, false, false, false, false, 0, if d.chopper then 0 else d.offTime, min d.e 1000000,
      d.hot || decide (1000000 ≤ d.e)⟩ := by
  simp [Dls.softReset, Dls.withRecord, DcRec.reset]

theorem Dls.softReset_safe (d : Dls) : d.softReset.Safe := by
  simp only [Dls.softReset_eq, Dls.Safe, DcRec.reset, implies_true, reduceCtorEq, false_implies, true_and]
  omega

theorem Dls.reset_safe : Dls.reset.Safe := by
  simp [Dls.Safe, Dls.reset, DcRec.reset]

@[simp] theorem State.softResetValues_dls (s : State) : s.softResetValues.dls = s.dls.softReset := by
  unfold State.softResetValues
  dsimp only
  split <;> simp

@[simp] theorem State.softResetValues_conv (s : State) :
    s.softResetValues.conv = Bank4.const Converter.idle := by
  unfold State.softResetValues
  dsimp only
  split <;> simp

@[simp] theorem State.softResetValues_chc (s : State) : s.softResetValues.chc = Chc.reset := by
  unfold State.softResetValues
  dsimp only
  split <;> simp

@[simp] theorem State.markCarriers_smu (s : State) (c : Chan) :
    (s.markCarriers.chan c).smu = (s.chan c).smu := by
  simp [State.markCarriers, State.chan]

@[simp] theorem State.softResetValues_smu (s : State) (c : Chan) :
    (s.softResetValues.chan c).smu = SmuCh.reset := by
  unfold State.softResetValues
  dsimp only
  split
  · exact (State.markCarriers_smu _ c).trans (by simp [State.chan, Channel.softReset])
  · simp [State.chan, Channel.softReset]

theorem State.hardReset_smu (s : State) (held : Bool) (straps : Straps) (c : Chan) :
    ((s.hardReset held straps).chan c).smu = SmuCh.reset := by
  simp [State.hardReset, State.afterReset, State.chan, Channel.reset]

theorem State.hardReset_brakeSafe (s : State) (held : Bool) (straps : Straps) :
    (s.hardReset held straps).BrakeSafe :=
  (State.brakeSafe_iff _).2 ⟨Dls.reset_safe, .of_none rfl⟩

theorem State.softResetValues_brakeSafe (s : State) : s.softResetValues.BrakeSafe :=
  (State.brakeSafe_iff _).2 ⟨s.softResetValues_dls ▸ s.dls.softReset_safe, .of_none (by simp [Chc.reset])⟩

/-! ### The servo boundary -/

/-- DLS after a swap: with a DC-link record staged, the one under that record (R99, R117). -/
def State.dlsAfterSwap (s : State) : Dls :=
  match s.chc.stDcLink with
  | none => s.dls
  | some x => s.dls.withRecord x.value

theorem State.dlsAfterSwap_safe {s : State} (hdls : s.dls.Safe) (hstaged : s.StagedSafe) :
    s.dlsAfterSwap.Safe := by
  unfold State.dlsAfterSwap
  split
  next => exact hdls
  next x hx => exact Dls.withRecord_safe hdls.1 (hstaged x hx)

/-- What a boundary's swap of the DC-link record does: `dlsAfterSwap` is in force and none is staged. -/
def State.SwapsBrake (s t : State) : Prop := t.dls = s.dlsAfterSwap ∧ t.chc.stDcLink = none

theorem State.swapDcLink_swapsBrake (s : State) : s.SwapsBrake s.swapDcLink := by
  unfold State.SwapsBrake State.swapDcLink State.dlsAfterSwap
  split <;> simp [*]

@[simp] theorem State.swapXt_stDcLink (s : State) : s.swapXt.chc.stDcLink = s.chc.stDcLink := by
  unfold State.swapXt
  split <;> simp

theorem State.chcBoundary_swapsBrake (applied : Chan → Option Entry) (s : State) :
    s.SwapsBrake (State.chcBoundary applied s) := by
  have tables (t : State) : (Quad.all.foldl State.swapTable t).chc.stDcLink = t.chc.stDcLink :=
    foldl_keeps (fun u : State => u.chc.stDcLink) _ State.swapTable_stDcLink _ t
  obtain ⟨hdls, hstaged⟩ := State.swapDcLink_swapsBrake
    (Quad.all.foldl State.swapTable (Chan.all.foldl State.swapChannel s)).swapCarrier
  exact ⟨by simp [State.chcBoundary, hdls, State.dlsAfterSwap, tables], by simp [State.chcBoundary, hstaged]⟩

theorem State.boundary_swapsBrake (chcFirst : Bool) (s : State) : s.SwapsBrake (State.boundary chcFirst s) := by
  have swap := State.chcBoundary_swapsBrake
  unfold State.boundary
  dsimp only
  split <;> simp [State.SwapsBrake, (swap _ _).1, (swap _ _).2, State.dlsAfterSwap]

theorem execServoBoundary_swapsBrake {s : State} (hheld : s.crw.held = false) (hrun : s.mod.running = true) :
    ∃ u, execServoBoundary s = .next u ∧ s.SwapsBrake u := by
  obtain ⟨hdls, hstaged⟩ :=
    ({ s with draws := s.draws + 1 } : State).boundary_swapsBrake (Config.chcFirst s.draws)
  exact ⟨_, by simp only [execServoBoundary, State.live, hheld, hrun, State.finish]; rfl,
    by simp [hdls, State.dlsAfterSwap], by simp [hstaged]⟩

/-! ### The DC sample -/

/-- E after a sample: the chopper state before it adds on_inc, decay comes off, down to 0 (R121). -/
def Dls.energyAfter (d : Dls) : Nat := d.e + (if d.chopper then d.dc.onInc else 0) - d.dc.decay

theorem Dls.energyAfter_cast (d : Dls) :
    (d.energyAfter : Int) = max 0 ((d.e : Int) + (if d.chopper then d.dc.onInc else 0) - d.dc.decay) := by
  unfold Dls.energyAfter
  split <;> omega

/-- One sample adds at most on_inc, and that only to a chopper that was on, below E_lim. -/
theorem Dls.energyAfter_lt {d : Dls} (h : d.Safe) : d.energyAfter < d.dc.eLim + d.dc.onInc := by
  obtain ⟨_, hon, hbound⟩ := h
  unfold Dls.energyAfter
  split
  next on => have := hon on; omega
  next => omega

theorem Dls.updateEnergy_of_ge {d : Dls} (h : d.dc.eLim ≤ d.energyAfter) : d.updateEnergy =
    { d with e := d.energyAfter, hot := true, chopper := false, offTime := if d.chopper then 0 else d.offTime } :=
  if_pos h

theorem Dls.updateEnergy_of_lt {d : Dls} (h : d.energyAfter < d.dc.eLim) : d.updateEnergy =
    { d with e := d.energyAfter, hot := d.hot && decide (d.dc.eLim / 2 < d.energyAfter) } := by
  have clears : decide (d.dc.eLim / 2 < d.energyAfter) = !decide (d.energyAfter ≤ d.dc.eLim / 2) := by
    simp only [← decide_not, Nat.not_le]
  rw [clears]
  exact if_neg (Nat.not_le.2 h)

/-- A chopper that is on turns off at brake_off, after min_on (R120). -/
theorem Dls.switchChopper_of_on {d : Dls} (on : d.chopper = true) (udc : Nat) :
    (d.switchChopper udc).chopper = (!(decide (udc ≤ d.dc.brakeOff) && decide (d.dc.minOn ≤ d.onTime)))
      ∧ ((d.switchChopper udc).chopper = false → (d.switchChopper udc).offTime = 0) := by
  simp only [Dls.switchChopper, on, if_true]
  split
  next off => simp [off.1, off.2]
  next stays => simpa [on, imp_iff_not_or] using stays

/-- A chopper that is off turns on at brake_on, after min_off and with BRAKE_HOT clear (R120, R121). -/
theorem Dls.switchChopper_of_off {d : Dls} (off : d.chopper = false) (udc : Nat) :
    (d.switchChopper udc).chopper =
        (!d.hot && decide (d.dc.brakeOn ≤ udc) && decide (d.dc.minOff ≤ d.offTime))
      ∧ ((d.switchChopper udc).chopper = true → (d.switchChopper udc).onTime = 0) := by
  simp only [Dls.switchChopper, off, Bool.false_eq_true, if_false]
  split
  next on => simp [on.1, on.2.1, on.2.2]
  next stays => simpa [off] using stays

/-- The switching rule moves the chopper and its counters only. -/
theorem Dls.switchChopper_frame (d : Dls) (udc : Nat) : (d.switchChopper udc).e = d.e
    ∧ (d.switchChopper udc).hot = d.hot ∧ (d.switchChopper udc).dc = d.dc := by
  unfold Dls.switchChopper
  (repeat' split) <;> simp

theorem Dls.sample_e (d : Dls) (udc : Nat) : (d.sample udc).e = d.energyAfter := by
  refine (d.updateEnergy.switchChopper_frame udc).1.trans ?_
  rcases Nat.lt_or_ge d.energyAfter d.dc.eLim with low | high
  · rw [d.updateEnergy_of_lt low]
  · rw [d.updateEnergy_of_ge high]

/-- A sample that takes E to E_lim or above sets BRAKE_HOT and forces the chopper off (R121). -/
theorem Dls.sample_of_ge {d : Dls} (h : d.dc.eLim ≤ d.energyAfter) (udc : Nat) :
    (d.sample udc).hot = true ∧ (d.sample udc).chopper = false
      ∧ (d.chopper = true → (d.sample udc).offTime = 0) := by
  have forced : d.updateEnergy.switchChopper udc = { d with
      e := d.energyAfter, hot := true, chopper := false, offTime := if d.chopper then 0 else d.offTime } := by
    rw [Dls.updateEnergy_of_ge h]
    exact if_neg (by simp)
  exact ⟨congrArg Dls.hot forced, congrArg Dls.chopper forced,
    fun on => (congrArg Dls.offTime forced).trans (if_pos on)⟩

/-- A sample that leaves E below E_lim clears BRAKE_HOT at half of it, and the chopper follows its thresholds and
minimum times (R120, R121). -/
theorem Dls.sample_of_lt {d : Dls} (h : d.energyAfter < d.dc.eLim) (udc : Nat) :
    (d.sample udc).hot = (d.hot && decide (d.dc.eLim / 2 < d.energyAfter))
      ∧ (d.chopper = true →
          (d.sample udc).chopper = !(decide (udc ≤ d.dc.brakeOff) && decide (d.dc.minOn ≤ d.onTime)))
      ∧ (d.chopper = false → (d.sample udc).chopper =
          (!(d.sample udc).hot && decide (d.dc.brakeOn ≤ udc) && decide (d.dc.minOff ≤ d.offTime)))
      ∧ (d.chopper = true → (d.sample udc).chopper = false → (d.sample udc).offTime = 0)
      ∧ (d.chopper = false → (d.sample udc).chopper = true → (d.sample udc).onTime = 0) := by
  have hot : (d.sample udc).hot = (d.hot && decide (d.dc.eLim / 2 < d.energyAfter)) := by
    refine (d.updateEnergy.switchChopper_frame udc).2.1.trans ?_
    rw [Dls.updateEnergy_of_lt h]
  refine ⟨hot, ?_⟩
  rw [hot]
  simp only [Dls.sample, Dls.updateEnergy_of_lt h]
  refine ⟨fun on => (Dls.switchChopper_of_on ?_ udc).1, fun off => (Dls.switchChopper_of_off ?_ udc).1,
    fun on => (Dls.switchChopper_of_on ?_ udc).2, fun off => (Dls.switchChopper_of_off ?_ udc).2⟩
  exacts [on, off, on, off]

/-- A sample keeps the brake safe: its two cases are E at E_lim or above, and below. -/
theorem Dls.sample_safe {d : Dls} (h : d.Safe) (udc : Nat) : (d.sample udc).Safe := by
  have bound := Dls.energyAfter_lt h
  simp only [Dls.Safe, d.sample_dc, d.sample_e]
  rcases Nat.lt_or_ge d.energyAfter d.dc.eLim with low | high
  · obtain ⟨hhot, _, hoff, _⟩ := Dls.sample_of_lt low udc
    refine ⟨fun hot => ?_, fun _ => low, bound⟩
    have off : d.chopper = false := h.1 (Bool.and_eq_true_iff.1 (hhot ▸ hot)).1
    simp [hoff off, hot]
  · obtain ⟨_, off, _⟩ := Dls.sample_of_ge high udc
    exact ⟨fun _ => off, fun on => absurd (off ▸ on) Bool.false_ne_true, bound⟩

/-- A sample of running carriers updates the link and DLS; the link trips it may raise touch neither, nor what is
staged. -/
theorem execDcSample_brake {s : State} (raw : BitVec 12) (hheld : s.crw.held = false)
    (hrun : s.mod.running = true) :
    ∃ u, execDcSample raw s = .next u ∧ u.dls = s.dls.sample u.link.udc ∧ u.chc = s.chc := by
  simp only [execDcSample, State.live, hheld, hrun, State.finish]
  refine ⟨_, rfl, ?_, ?_⟩
  · (repeat' split) <;> simp [Link.sample]
  · (repeat' split) <;> simp

/-! ### What every command and every step does to the brake -/

/-- Every command keeps the brake safe. -/
theorem exec_keeps_brakeSafe {i : Instr} {s t : State} (h : exec i s = .next t) (hs : s.BrakeSafe) :
    t.BrakeSafe := by
  obtain ⟨hdls, hstaged⟩ := s.brakeSafe_iff.1 hs
  cases i with
  | hardwareReset =>
    cases h
    exact s.hardReset_brakeSafe _ _
  | hardwareResetRelease straps =>
    rw [exec, execHardwareResetRelease] at h
    split at h <;> cases h
    · exact s.hardReset_brakeSafe _ _
    · exact hs
  | softReset =>
    rw [exec, execSoftReset, State.window] at h
    split at h <;> cases h
    · exact hs
    · exact s.softResetValues_brakeSafe
  | dcSample raw =>
    rw [exec] at h
    by_cases hlive : s.crw.held = false ∧ s.mod.running = true
    · obtain ⟨u, hu, hsample, hchc⟩ := execDcSample_brake raw hlive.1 hlive.2
      cases hu.symm.trans h
      exact t.brakeSafe_iff.2 ⟨hsample ▸ Dls.sample_safe hdls _, hstaged.of_eq (by rw [hchc])⟩
    · cases (execDcSample_stopped raw hlive).symm.trans h
      exact hs
  | servoBoundary =>
    rw [exec] at h
    by_cases hlive : s.crw.held = false ∧ s.mod.running = true
    · obtain ⟨u, hu, hswap, hnone⟩ := execServoBoundary_swapsBrake hlive.1 hlive.2
      cases hu.symm.trans h
      exact t.brakeSafe_iff.2 ⟨hswap ▸ State.dlsAfterSwap_safe hdls hstaged, .of_none hnone⟩
    · cases (execServoBoundary_stopped hlive).symm.trans h
      exact hs
  | _ => exact (exec_keepsBrake rfl s t h).brakeSafe hs

/-- A tick moves only the chopper's counters of DLS (R120). -/
theorem Dls.tick_safe {d : Dls} (h : d.Safe) : d.tick.Safe := by
  unfold Dls.tick
  split <;> exact h

theorem State.tick_keeps_brakeSafe {s : State} (h : s.BrakeSafe) : s.tick.BrakeSafe := by
  obtain ⟨hdls, hstaged⟩ := s.brakeSafe_iff.1 h
  have dls : s.tick.dls = s.dls.tick := by simp [State.tick]
  exact (State.brakeSafe_iff _).2 ⟨dls ▸ Dls.tick_safe hdls, hstaged.of_eq (by simp)⟩

theorem State.idle_keeps_brakeSafe {s : State} (h : s.BrakeSafe) : s.idle.BrakeSafe := by
  have same {t : State} (hd : t.dls = s.dls) (hc : t.chc = s.chc) : t.BrakeSafe :=
    (State.SameBrake.of_eq hd (by rw [hc])).brakeSafe h
  simp only [State.idle]
  generalize s.due.length + _ = n
  (repeat' split)
  · exact h
  · exact State.tick_keeps_brakeSafe h
  · exact same (by simp) (by simp)
  · exact same rfl rfl
  · exact same (by simp) (by simp)

theorem step_keeps_brakeSafe {s t : State} (h : step s = .next t) (hs : s.BrakeSafe) : t.BrakeSafe := by
  unfold step at h
  split at h
  next => exact exec_keeps_brakeSafe h hs
  next =>
    cases h
    exact State.idle_keeps_brakeSafe hs

/-! ### The statements -/

/-- Settles O36: the invariant by `step_keeps_brakeSafe`, a sample by the two cases of `Dls.sample`. -/
theorem brakeEnergy : Obligations.BrakeEnergy := by
  unfold Obligations.BrakeEnergy
  intro s raw
  refine ⟨fun t => step_keeps_brakeSafe, ⟨_, rfl, rfl⟩, fun hopen => ?soft, fun hheld hrun => ?sample⟩
  case soft =>
    refine ⟨_, execSoftReset_open hopen, ?_⟩
    simp only [State.softResetValues_dls, Dls.softReset_eq, and_self]
  case sample =>
    obtain ⟨u, hu, hdls, _⟩ := execDcSample_brake raw hheld hrun
    refine ⟨u, hu, ?_⟩
    rw [hdls, Dls.sample_e]
    exact ⟨s.dls.energyAfter_cast, fun high => Dls.sample_of_ge high _, fun low => Dls.sample_of_lt low _⟩

/-- Settles O8: both resets set the sampling blocks to their reset records, and DLS to `Dls.reset` or to what
`Dls.softReset_eq` lists. -/
theorem resetsOfSamplingAndBrake : Obligations.ResetsOfSamplingAndBrake := by
  unfold Obligations.ResetsOfSamplingAndBrake
  intro s
  refine ⟨⟨_, rfl, rfl, s.hardReset_smu _ _, rfl, rfl⟩, fun hopen => ⟨_, execSoftReset_open hopen, ?_⟩⟩
  exact ⟨s.softResetValues_conv, s.softResetValues_smu, s.softResetValues_link,
    s.softResetValues_dls.trans s.dls.softReset_eq⟩

end Sys2Proof.Machine
